-- ==== Sys2Proof/Config.lean ====
section
/-! DEFINITION. The implementation parameters of 00_scope.md R9, one definition each, and the one point the spec leaves
open: the registers' values before the first reset edge (92_eei_decisions.md D31). The parameters S0_TABLE, S1_TABLE and
D_TABLE are `Config.s0Table`, `Config.s1Table` and `Config.dTable` in Machine/Tables.lean. A width is read by the types
of Word.lean and State as `delta%` of its definition here: the type holds the number itself (log 16). -/

namespace Sys2Proof

/-- The number of LFSR registers (R9, NREG). -/
def Config.registerCount : Nat := 16

/-- The width of an LFSR register (R9, SW). -/
def Config.registerBits : Nat := 31

/-- The width of R1, R2, X0..X3, W and a keystream word (R9, WW). -/
def Config.wordBits : Nat := 32

/-- The width of the command word (R9, CMD_W). -/
def Config.commandBits : Nat := 16

/-- The width of the key and IV byte-count fields (R9, LEN_W). -/
def Config.lengthBits : Nat := 5

/-- The width of the round counter (R9, RC_W). -/
def Config.roundCounterBits : Nat := 6

/-- P = 2^31 - 1, the LFSR modulus (R9, 40_lfsr.md R100). -/
def Config.modulus : Nat := 0x7FFFFFFF

/-- The number of key bytes INIT accepts (R9, KEY_BYTES). -/
def Config.keyBytes : Nat := 16

/-- The number of IV bytes INIT accepts (R9, IV_BYTES). -/
def Config.ivBytes : Nat := 16

/-- The number of initialization rounds; fixed, not free (R9, INIT_ROUNDS). -/
def Config.initRounds : Nat := 32

/-- The number of warm-up rounds; fixed, not free (R9, WARM_ROUNDS). -/
def Config.warmRounds : Nat := 1

/-- Rounds of one clock edge: exactly one (R9, decision D9; 43_session_controller.md R172). -/
def Config.roundsPerEdge : Nat := 1

/-- OBS_PRESENT: the observer ports are fitted (R9, default true by decision D14; log 7). -/
def Config.obsPresent : Bool := true

/-- POWERUP_STATE (70_reset_and_hazards.md R240, D31): the draw for `s[i]`. No body: nothing can evaluate it (log 6). -/
opaque Config.powerUpLfsr : Fin (delta% Config.registerCount) → BitVec (delta% Config.registerBits)

/-- POWERUP_STATE: the draw for R1 (log 6). -/
opaque Config.powerUpR1 : BitVec (delta% Config.wordBits)

/-- POWERUP_STATE: the draw for R2 (log 6). -/
opaque Config.powerUpR2 : BitVec (delta% Config.wordBits)

/-- POWERUP_STATE: the draw for the two bits of PHASE (log 6). -/
opaque Config.powerUpPhase : BitVec 2

/-- POWERUP_STATE: the draw for RC (log 6). -/
opaque Config.powerUpRc : BitVec (delta% Config.roundCounterBits)

/-- POWERUP_STATE: the draw for ERR (log 6). -/
opaque Config.powerUpErr : BitVec 3

/-- POWERUP_STATE: the draw for ZOUT (log 6). -/
opaque Config.powerUpZout : BitVec (delta% Config.wordBits)

/-- POWERUP_STATE: the draw for ZVALID (log 6). -/
opaque Config.powerUpZvalid : Bool

/-- POWERUP_STATE: the draw for OBSV (log 6). -/
opaque Config.powerUpObsv : Bool

end Sys2Proof
end

