-- ==== Sys2Proof/Word.lean ====
section
/-! DEFINITION. The word types of the core (00_scope.md R10: every value is an unsigned integer of 8, 16, 31 or
32 bits; 30_encoding.md R71: ports of 16 and 128 bits), their widths from Config (R9). -/

namespace Sys2Proof

/-- A byte of the key, of the IV or of an S-box (R11). -/
abbrev Byte := BitVec 8

/-- The value of one LFSR register, 31 bits (10_state.md R20; parameter SW). -/
abbrev Word31 := BitVec (delta% Config.registerBits)

/-- A 32-bit word: R1, R2, X0..X3, W and a keystream word (00_scope.md R9, parameter WW). -/
abbrev Word32 := BitVec (delta% Config.wordBits)

/-- The command word, 16 bits (00_scope.md R9, parameter CMD_W). -/
abbrev CmdWord := BitVec (delta% Config.commandBits)

/-- The LFSR register file `s[0] .. s[15]` (10_state.md R20; parameter NREG). -/
abbrev Lfsr := Vector Word31 (delta% Config.registerCount)

end Sys2Proof
end

