-- ==== Sys2Proof/Syntax.lean ====
section
/-! DEFINITION. The instructions: one constructor per row of spec/opcode_table.json. Four are host commands
(30_encoding.md R73), three are the internal round kinds (R79). -/

namespace Sys2Proof

/-- The rows of the opcode table. A command word that is ILLEGAL (R76) is no row: `decodeCommand` rejects it by name. -/
inductive Instr where
  /-- NOP, 0x0000 (43_session_controller.md R174). -/
  | nop
  /-- INIT with its two byte counts (R175, R74); the data operands are the ports `key_in` and `iv_in`. -/
  | init (klen vlen : Nat)
  /-- GEN, 0x0002 (R176). -/
  | gen
  /-- CLEAR, 0x0003 (R177). -/
  | clear
  /-- INIT_ROUND, selected by PHASE = 0b01 (R179). -/
  | initRound
  /-- WARM_ROUND, selected by PHASE = 0b10 (R180). -/
  | warmRound
  /-- GEN_ROUND, selected by an accepted GEN in PHASE = 0b11 (R181). -/
  | genRound
deriving DecidableEq, Repr

end Sys2Proof
end

