-- ==== Sys2Proof/WellFormed.lean ====
section
/-! DEFINITION. Which terms of `Instr` an encoding exists for: KLEN and VLEN are 5-bit counts, 0..31
(30_encoding.md R72, R74; parameter LEN_W of 00_scope.md R9). -/

namespace Sys2Proof

/-- A byte count fits its 5-bit field (R72: "0..31"). -/
def fitsLenField (n : Nat) : Bool := decide (n < 2 ^ Config.lengthBits)

/-- An instruction has an encoding. Both checks are on INIT: no other row has an operand (R72). -/
def Instr.wellFormed : Instr → Bool
  | .nop => true
  | .init klen vlen => fitsLenField klen && fitsLenField vlen
  | .gen => true
  | .clear => true
  | .initRound => true
  | .warmRound => true
  | .genRound => true

end Sys2Proof
end

