-- ==== Sys2Proof/Decode.lean ====
section
/-! DEFINITION. The decoder of command words (30_encoding.md R72 to R78), the selection of a round by PHASE
(R79), and after them the encoder, written from the same tables. Both decoders are total; every word that stands
for no instruction is rejected by name. -/

namespace Sys2Proof

/-- Why a word stands for no instruction. The first three are R76's three groups of ILLEGAL words. -/
inductive DecodeError where
  /-- OP = 0x4 .. 0xF (R73, R76). -/
  | reservedOp
  /-- OP = 0x1 with RSV ≠ 0 (R72, R76). -/
  | reservedBits
  /-- OP = 0x0, 0x2 or 0x3 with a bit of [15:4] set (R72, R76). -/
  | operandBits
  /-- PHASE = 0b00 selects no round (R79, R182). -/
  | noRound
  /-- A table word with bits above those its format has. -/
  | tooWide
deriving DecidableEq, Repr

/-- OP, cmd[3:0] (R72). -/
def opField (cmd : CmdWord) : BitVec 4 := cmd.extractLsb' 0 4

/-- KLEN, cmd[8:4] (R72). -/
def klenField (cmd : CmdWord) : BitVec (delta% Config.lengthBits) := cmd.extractLsb' 4 5

/-- VLEN, cmd[13:9] (R72). -/
def vlenField (cmd : CmdWord) : BitVec (delta% Config.lengthBits) := cmd.extractLsb' 9 5

/-- RSV, cmd[15:14] (R72). -/
def rsvField (cmd : CmdWord) : BitVec 2 := cmd.extractLsb' 14 2

/-- The name of an ILLEGAL word's group (R76). -/
def illegalGroup (cmd : CmdWord) : DecodeError :=
  if 4#4 ≤ opField cmd then .reservedOp
  else if opField cmd = 1#4 then .reservedBits
  else .operandBits

/-- Decode of R75, in its order; applied only when cmd_valid = 1. -/
def decodeCommand (cmd : CmdWord) : Except DecodeError Instr :=
  if opField cmd = 0x1#4 ∧ rsvField cmd = 0#2 then
    .ok (.init (klenField cmd).toNat (vlenField cmd).toNat)
  else if cmd = 0x0000#16 then .ok .nop
  else if cmd = 0x0002#16 then .ok .gen
  else if cmd = 0x0003#16 then .ok .clear
  else .error (illegalGroup cmd)

/-- The round kind that PHASE selects (R79; the AUTO rows of the opcode table). -/
def decodeRound (phase : BitVec 2) : Except DecodeError Instr :=
  if phase = 0b01#2 then .ok .initRound
  else if phase = 0b10#2 then .ok .warmRound
  else if phase = 0b11#2 then .ok .genRound
  else .error .noRound

/-- The two formats of the opcode table: a 16-bit command word, or a 2-bit PHASE (AUTO, R79). -/
inductive Encoded where
  | command (cmd : CmdWord)
  | auto (phase : BitVec 2)
deriving DecidableEq, Repr

/-- The instruction an encoding of either format stands for. -/
def decode : Encoded → Except DecodeError Instr
  | .command cmd => decodeCommand cmd
  | .auto phase => decodeRound phase

/-- The width in bits below which a table word is of format AUTO (log 5): a command word has 16 bits (R78), an
AUTO row has the 2 bits of PHASE, one byte. -/
def commandBits : Nat := Config.commandBits

/-- A word of the opcode table as an encoding, the format told by the width the table gives its row. -/
def tableWord (nbits w : Nat) : Except DecodeError Encoded :=
  if nbits < commandBits then
    if w < 4 then .ok (.auto (BitVec.ofNat 2 w)) else .error .tooWide
  else if w < 2 ^ Config.commandBits then .ok (.command (BitVec.ofNat 16 w))
  else .error .tooWide

/-- The instruction the decoder reads from a word of the opcode table; none where it refuses. -/
def decodeTableWord (nbits w : Nat) : Option Instr :=
  match tableWord nbits w with
  | .ok e => (decode e).toOption
  | .error _ => none

/-- The command word of INIT: `00 VVVVV KKKKK 0001` (R72, R76). -/
def initWord (klen vlen : Nat) : CmdWord :=
  (0#2 ++ BitVec.ofNat 5 vlen ++ BitVec.ofNat 5 klen ++ 0x1#4 : BitVec 16)

/-- The words of an instruction, from R72, R73 and R79. -/
def encode : Instr → Encoded
  | .nop => .command 0x0000#16
  | .init klen vlen => .command (initWord klen vlen)
  | .gen => .command 0x0002#16
  | .clear => .command 0x0003#16
  | .initRound => .auto 0b01#2
  | .warmRound => .auto 0b10#2
  | .genRound => .auto 0b11#2

/-- A row of spec/opcode_table.json of format CMD16: a word is the row's when `word and mask = pattern`. -/
structure CommandRow where
  mask : CmdWord
  pattern : CmdWord
deriving DecidableEq, Repr

/-- The CMD16 rows of spec/opcode_table.json, in its order: NOP, INIT, GEN, CLEAR. -/
def commandRows : List CommandRow :=
  [ ⟨0xFFFF#16, 0x0000#16⟩,
    ⟨0xC00F#16, 0x0001#16⟩,
    ⟨0xFFFF#16, 0x0002#16⟩,
    ⟨0xFFFF#16, 0x0003#16⟩ ]

/-- A word falls under a row of the table. -/
def CommandRow.covers (r : CommandRow) (cmd : CmdWord) : Bool := decide (cmd &&& r.mask = r.pattern)

end Sys2Proof
end

