-- ==== Sys2Proof/Machine/State.lean ====
section
/-! DEFINITION. The state of the core (10_state.md), what the host presents on the coming edges, the reasons a step
could stop, and the state after reset (R37, R241). -/

namespace Sys2Proof.Machine

open Sys2Proof

/-- PHASE, the session controller's state (10_state.md R23); its 2-bit code is `Phase.code` in Flags.lean. -/
inductive Phase where
  /-- 0b00: no session; GEN is rejected. -/
  | uninitialized
  /-- 0b01: the 32 initialization rounds are running; RC counts them. -/
  | initializing
  /-- 0b10: the one warm-up round runs on the next edge. -/
  | warming
  /-- 0b11: each GEN command produces one keystream word. -/
  | generating
deriving DecidableEq, Repr

/-- The error kinds of 60_exceptions.md R210; the 3-bit codes are `ErrorKind.code` in Flags.lean. -/
inductive ErrorKind where
  /-- NONE. -/
  | noError
  /-- INVALID_KEY_LENGTH, raised by INIT. -/
  | invalidKeyLength
  /-- INVALID_IV_LENGTH, raised by INIT. -/
  | invalidIvLength
  /-- USE_BEFORE_INITIALIZE, raised by GEN. -/
  | useBeforeInitialize
  /-- ILLEGAL_COMMAND, raised by a word that matches no command. -/
  | illegalCommand
deriving DecidableEq, Repr

/-- The input ports of 30_encoding.md R71 other than the clock, as one edge samples them. -/
structure Pins where
  /-- `rst`: synchronous reset, active high (70_reset_and_hazards.md R240). -/
  rst : Bool
  /-- `cmd_valid`. -/
  cmdValid : Bool
  /-- `cmd`. -/
  cmd : CmdWord
  /-- `key_in`, key[0] in bits [127:120] (20_memory.md R52). -/
  keyIn : BitVec 128
  /-- `iv_in`, iv[0] in bits [127:120] (R52). -/
  ivIn : BitVec 128
deriving DecidableEq, Repr

/-- An edge with no command and no reset (R80, IDLE); the unread inputs are 0 (log 3). -/
def Pins.idle : Pins := ⟨false, false, 0#16, 0#128, 0#128⟩

/-- The state. The first nine fields are the registers of 10_state.md; the last two are the model's own: the host's
inputs (log 1). -/
structure State where
  /-- `s[0] .. s[15]` (R20). -/
  lfsr : Lfsr
  /-- R1 (R22). -/
  r1 : Word32
  /-- R2 (R22). -/
  r2 : Word32
  /-- PHASE (R23). -/
  phase : Phase
  /-- RC (R25; parameter RC_W of 00_scope.md R9). -/
  rc : BitVec (delta% Config.roundCounterBits)
  /-- ERR (R26). -/
  err : BitVec 3
  /-- ZOUT (R30). -/
  zout : Word32
  /-- ZVALID (R31). -/
  zvalid : Bool
  /-- OBSV (R32). -/
  obsv : Bool
  /-- The inputs the next edge samples (R71; log 1). -/
  pins : Pins
  /-- The inputs of the edges after it, the next one first; where it ends, idle edges follow (R80; log 1, log 2). -/
  pending : List Pins
deriving DecidableEq, Repr

/-- Faults. There are none: "The step is a total, deterministic function: the core never stalls, hangs or refuses an
edge" (43_session_controller.md R170). Raised by nobody; safe (log 9). -/
inductive Fault where
deriving DecidableEq, Repr

/-- Refusals. -/
inductive Refusal where
  /-- An instruction with no meaning yet. Raised by no arm of this model (every row has its meaning); safe. -/
  | notModelled (mnemonic : String)
deriving DecidableEq, Repr

/-- The machine right after reset: the reset column of R37 (R241). The inputs are idle (log 1). -/
def State.reset : State where
  lfsr := Vector.replicate 16 0#31
  r1 := 0#32
  r2 := 0#32
  phase := .uninitialized
  rc := 0#6
  err := 0#3
  zout := 0#32
  zvalid := false
  obsv := false
  pins := Pins.idle
  pending := []

end Sys2Proof.Machine
end

