-- ==== Sys2Proof/Machine/BitReorganizer.lean ====
section
/-! DEFINITION. The bit reorganizer of 41_bit_reorganizer.md: four 32-bit words from the start-of-round register file,
computed afresh in every round (R135), never state (10_state.md R35). -/

namespace Sys2Proof.Machine

open Sys2Proof

/-- `H(x) = x[30:15]` (R130). -/
def highHalf (x : Word31) : BitVec 16 := x.extractLsb' 15 16

/-- `L(x) = x[15:0]` (R130). -/
def lowHalf (x : Word31) : BitVec 16 := x.extractLsb' 0 16

/-- The four words of one round (R131). -/
structure XWords where
  x0 : Word32
  x1 : Word32
  x2 : Word32
  x3 : Word32
deriving DecidableEq, Repr

/-- BitReorganize (R131). -/
def bitReorganize (s : Lfsr) : XWords where
  x0 := highHalf s[15] ++ lowHalf s[14]
  x1 := lowHalf s[11] ++ highHalf s[9]
  x2 := lowHalf s[7] ++ highHalf s[5]
  x3 := lowHalf s[2] ++ highHalf s[0]

end Sys2Proof.Machine
end

