-- ==== Sys2Proof/Machine/Flags.lean ====
section
/-! DEFINITION. The codes of PHASE and ERR and the STATUS word with its status bits (10_state.md R23, R33, R34;
60_exceptions.md R210). The core has no condition codes (R34): READY, BUSY, ZVALID and OBSV are its only status bits. -/

namespace Sys2Proof.Machine

open Sys2Proof

/-- The 2-bit encoding of PHASE (R23). -/
def Phase.code : Phase → BitVec 2
  | .uninitialized => 0b00#2
  | .initializing => 0b01#2
  | .warming => 0b10#2
  | .generating => 0b11#2

/-- The phase a 2-bit code stands for; all four codes are used (R23). -/
def Phase.ofCode (c : BitVec 2) : Phase :=
  if c = 0b00#2 then .uninitialized
  else if c = 0b01#2 then .initializing
  else if c = 0b10#2 then .warming
  else .generating

/-- The 3-bit code of an error kind (R210). -/
def ErrorKind.code : ErrorKind → BitVec 3
  | .noError => 0#3
  | .invalidKeyLength => 1#3
  | .invalidIvLength => 2#3
  | .useBeforeInitialize => 3#3
  | .illegalCommand => 4#3

/-- STATUS.READY: 1 iff PHASE = GENERATING (R33). -/
def ready (s : State) : Bool := decide (s.phase = .generating)

/-- STATUS.BUSY: 1 iff PHASE is INITIALIZING or WARMING (R33). -/
def busy (s : State) : Bool := decide (s.phase = .initializing ∨ s.phase = .warming)

/-- The STATUS word: reserved 00, ZVALID, BUSY, READY, ERR, RC, PHASE from bit 15 down (R33). -/
def status (s : State) : BitVec 16 :=
  (0b00#2 ++ BitVec.ofBool s.zvalid ++ BitVec.ofBool (busy s) ++ BitVec.ofBool (ready s) ++ s.err ++ s.rc
    ++ s.phase.code : BitVec 16)

end Sys2Proof.Machine
end

