-- ==== Sys2Proof/Machine/Operands.lean ====
section
/-! DEFINITION. The operand forms: the two byte counts of INIT and the bytes of the `key_in` and `iv_in` ports
(30_encoding.md R74, 20_memory.md R52). The core has no register operand and no other immediate (R74). -/

namespace Sys2Proof.Machine

open Sys2Proof

/-- Byte i of a 128-bit port, byte 0 in the most significant bits: `port[127-8i : 120-8i]` (R52). -/
def portByte (port : BitVec 128) (i : Nat) : Byte := port.extractLsb' (120 - 8 * i) 8

/-- INIT accepts a key of KLEN bytes: only 16 (R74, R175). -/
def keyLengthOk (klen : Nat) : Bool := decide (klen = Config.keyBytes)

/-- INIT accepts an IV of VLEN bytes: only 16 (R74, R175). -/
def ivLengthOk (vlen : Nat) : Bool := decide (vlen = Config.ivBytes)

end Sys2Proof.Machine
end

