-- ==== Sys2Proof/Machine/Lfsr.lean ====
section
/-! DEFINITION. The LFSR block of 40_lfsr.md: arithmetic modulo P = 2^31 - 1, the load, the feedback sum and the two
update modes. -/

namespace Sys2Proof.Machine

open Sys2Proof

/-- AddMod (R103): the 32-bit sum, its top bit folded back into the low 31 bits, and the re-reduction of P. -/
def addMod (a b : Word31) : Word31 :=
  let sum : BitVec 32 := a.setWidth 32 + b.setWidth 32
  let t : Word31 := sum.extractLsb' 0 31 + (sum.extractLsb' 31 1).setWidth 31
  if t = BitVec.ofNat 31 Config.modulus then 0#31 else t

/-- `rotl31(x, k)` for 0 < k < 31 (R104). -/
def rotl31 (x : Word31) (k : Nat) : Word31 := (x <<< k) ||| (x >>> (31 - k))

/-- RotMulPow2 (R104): multiplication by 2^k modulo P, as a 31-bit rotation. -/
def rotMulPow2 (x : Word31) (k : Nat) : Word31 := rotl31 x k

/-- Feedback (R105): the weighted sum of the taps, the unscaled `s[0]` included (90_conflicts.md C1). -/
def feedback (s : Lfsr) : Word31 :=
  let f0 := s[0]
  let f1 := addMod f0 (rotMulPow2 s[0] 8)
  let f2 := addMod f1 (rotMulPow2 s[4] 20)
  let f3 := addMod f2 (rotMulPow2 s[10] 21)
  let f4 := addMod f3 (rotMulPow2 s[13] 17)
  addMod f4 (rotMulPow2 s[15] 15)

/-- "If f is 0, substitute 2^31-1" (R106, R107), which is P. -/
def substituteZero (f : Word31) : Word31 := if f = 0#31 then BitVec.ofNat 31 Config.modulus else f

/-- The shift of the window by one place, all 16 writes at once (R109). -/
def shiftIn (s : Lfsr) (f : Word31) : Lfsr :=
  Vector.ofFn fun i : Fin 16 => if h : i.val < 15 then s[i.val + 1] else f

/-- InitModeUpdate (R106). -/
def initModeUpdate (s : Lfsr) (u : Word31) : Lfsr := shiftIn s (substituteZero (addMod (feedback s) u))

/-- WorkModeUpdate (R107). -/
def workModeUpdate (s : Lfsr) : Lfsr := shiftIn s (substituteZero (feedback s))

/-- The value Load gives register i: `key[i] ‖ D[i][14:0] ‖ iv[i]` (R101). -/
def loadWord (keyIn ivIn : BitVec 128) (i : Nat) : Word31 :=
  (portByte keyIn i ++ (dRead i).extractLsb' 0 15 ++ portByte ivIn i : BitVec 31)

/-- Load (R101): all 16 registers, from the bytes of the ports (20_memory.md R52). -/
def load (keyIn ivIn : BitVec 128) : Lfsr := Vector.ofFn fun i : Fin 16 => loadWord keyIn ivIn i.val

end Sys2Proof.Machine
end

