-- ==== Sys2Proof/Machine/Nonlinear.lean ====
section
/-! DEFINITION. The nonlinear function F of 42_nonlinear_f.md and its parts. Arithmetic here is modulo 2^32 or bitwise,
never modulo P (R147). -/

namespace Sys2Proof.Machine

open Sys2Proof

/-- `rotl32(x, k)`, k taken modulo 32 (R140). -/
def rotl32 (x : Word32) (k : Nat) : Word32 := (x <<< (k % 32)) ||| (x >>> (32 - k % 32))

/-- The first linear transform L1 (R141). -/
def l1 (x : Word32) : Word32 := x ^^^ rotl32 x 2 ^^^ rotl32 x 10 ^^^ rotl32 x 18 ^^^ rotl32 x 24

/-- The second linear transform L2 (R142). -/
def l2 (x : Word32) : Word32 := x ^^^ rotl32 x 8 ^^^ rotl32 x 14 ^^^ rotl32 x 22 ^^^ rotl32 x 30

/-- The S-layer: S0, S1, S0, S1 from the most significant byte down (R143, 20_memory.md R53). -/
def sbox32 (x : Word32) : Word32 :=
  (s0Read (x.extractLsb' 24 8) ++ s1Read (x.extractLsb' 16 8) ++ s0Read (x.extractLsb' 8 8)
    ++ s1Read (x.extractLsb' 0 8) : BitVec 32)

/-- What one invocation of F gives: its return value and the new R1 and R2 (R144). -/
structure FResult where
  w : Word32
  r1 : Word32
  r2 : Word32
deriving DecidableEq, Repr

/-- F (R144), with the half selection of 90_conflicts.md C2. -/
def nonlinearF (x0 x1 x2 r1 r2 : Word32) : FResult :=
  let w := (x0 ^^^ r1) + r2
  let w1 := r1 + x1
  let w2 := r2 ^^^ x2
  let u := l1 (w1.extractLsb' 0 16 ++ w2.extractLsb' 16 16)
  let v := l2 (w2.extractLsb' 0 16 ++ w1.extractLsb' 16 16)
  { w := w, r1 := sbox32 u, r2 := sbox32 v }

end Sys2Proof.Machine
end

