-- ==== Sys2Proof/Machine/Ops.lean ====
section
/-! DEFINITION. The named operations over the registers: the writes, the three round bodies, the autonomous round of an
edge, Reset(), and the rejection of a command, which is the core's only exception (60_exceptions.md R212; it saves
nothing and there is no return from it, R217). -/

namespace Sys2Proof.Machine

open Sys2Proof

/-! ### Writes of single registers (10_state.md R38) -/

/-- `s <- l`. -/
def State.setLfsr (s : State) (l : Lfsr) : State := { s with lfsr := l }

/-- `R1 <- a; R2 <- b`. -/
def State.setFeedback (s : State) (a b : Word32) : State := { s with r1 := a, r2 := b }

/-- `PHASE <- p`. -/
def State.setPhase (s : State) (p : Phase) : State := { s with phase := p }

/-- `RC <- c`. -/
def State.setRc (s : State) (c : BitVec 6) : State := { s with rc := c }

/-- `ERR <- code(e)`. -/
def State.setErr (s : State) (e : ErrorKind) : State := { s with err := e.code }

/-- `ZOUT <- z`. -/
def State.setZout (s : State) (z : Word32) : State := { s with zout := z }

/-- `ZVALID <- b`. -/
def State.setZvalid (s : State) (b : Bool) : State := { s with zvalid := b }

/-- `OBSV <- b`. -/
def State.setObsv (s : State) (b : Bool) : State := { s with obsv := b }

/-- The inputs the next edge samples become `p`, those after it `ps`. -/
def State.setInputs (s : State) (p : Pins) (ps : List Pins) : State := { s with pins := p, pending := ps }

/-- The defaults of an edge without reset: `ZVALID <- 0; OBSV <- 0` (43_session_controller.md R171). -/
def State.beginEdge (s : State) : State := (s.setZvalid false).setObsv false

/-! ### Rounds (R179, R180, R181): BitReorganize, F and the LFSR update all read the start-of-round state -/

/-- F on the words of this round's BitReorganize and the start-of-round R1 and R2 (42_nonlinear_f.md R146). -/
def State.roundF (s : State) : FResult :=
  let x := bitReorganize s.lfsr
  nonlinearF x.x0 x.x1 x.x2 s.r1 s.r2

/-- INIT_ROUND (R179): u = W[31:1] enters the LFSR; the 32nd round moves PHASE to WARMING. -/
def State.initRound (s : State) : State :=
  let f := s.roundF
  let u : Word31 := f.w.extractLsb' 1 31
  (((s.setLfsr (initModeUpdate s.lfsr u)).setFeedback f.r1 f.r2).setRc (s.rc + 1#6)).setPhase
    (if s.rc.toNat + 1 = Config.initRounds then .warming else s.phase)

/-- WARM_ROUND (R180): W is discarded, R1 and R2 are written, and the last warm-up round moves PHASE to GENERATING. No
register counts warm-up rounds, so the round performed is the first, which is the last with WARM_ROUNDS = 1 (R9). -/
def State.warmRound (s : State) : State :=
  let f := s.roundF
  ((s.setLfsr (workModeUpdate s.lfsr)).setFeedback f.r1 f.r2).setPhase
    (if 1 = Config.warmRounds then .generating else s.phase)

/-- What GEN_ROUND returns: z = W xor X3 (R181). -/
def State.genWord (s : State) : Word32 := s.roundF.w ^^^ (bitReorganize s.lfsr).x3

/-- What GEN_ROUND writes: s, R1 and R2 (R181). -/
def State.genRound (s : State) : State :=
  let f := s.roundF
  (s.setLfsr (workModeUpdate s.lfsr)).setFeedback f.r1 f.r2

/-- The AUTO path of an edge (R171, R182): the round PHASE calls for, with OBSV <- 1, or nothing; as many
rounds as an edge has, one (R9). -/
def State.autonomous (s : State) : State :=
  match s.phase with
  | .initializing => (State.initRound^[Config.roundsPerEdge] s).setObsv true
  | .warming => (State.warmRound^[Config.roundsPerEdge] s).setObsv true
  | .uninitialized => s
  | .generating => s

/-! ### The exception of this core: rejecting a command -/

/-- `raise E`: ERR takes E's code and nothing else changes (R212, 00_scope.md R13). -/
def State.raise (s : State) (e : ErrorKind) : State := s.setErr e

/-- A rejected command: the edge's defaults, `raise E`, then the autonomous round as if no command had come (R171,
R212). -/
def State.reject (s : State) (e : ErrorKind) : State := (s.beginEdge.raise e).autonomous

/-! ### Reset() and a new session -/

/-- Reset(): every register to the reset column of 10_state.md R37 (70_reset_and_hazards.md R241); the inputs are the
host's and stay. -/
def State.resetRegisters (s : State) : State := State.reset.setInputs s.pins s.pending

/-- What a valid INIT writes (R175): the load, R1 = R2 = 0, PHASE, RC, ERR and ZOUT. -/
def State.startSession (s : State) : State :=
  (((((s.setLfsr (load s.pins.keyIn s.pins.ivIn)).setFeedback 0#32 0#32).setPhase .initializing).setRc 0#6).setErr
    .noError).setZout 0#32

end Sys2Proof.Machine
end

