-- ==== Sys2Proof/Machine/Commands.lean ====
section
/-! DEFINITION. The meanings of the host commands, each the whole effect of its edge (43_session_controller.md R171,
R174 to R178). -/

namespace Sys2Proof.Machine

open Sys2Proof

/-- NOP (R174): the edge's defaults, then the autonomous round; ERR is kept. -/
def execNop (s : State) : Host.Outcome State Fault Refusal := .next s.beginEdge.autonomous

/-- INIT (R175): the key count is checked first, then the IV count, before any state changes (R213); a valid INIT
replaces the edge's round (R172). -/
def execInit (klen vlen : Nat) (s : State) : Host.Outcome State Fault Refusal :=
  if keyLengthOk klen = false then .next (s.reject .invalidKeyLength)
  else if ivLengthOk vlen = false then .next (s.reject .invalidIvLength)
  else .next s.beginEdge.startSession

/-- GEN (R176): one GEN_ROUND and its word on ZOUT in GENERATING, else USE_BEFORE_INITIALIZE. -/
def execGen (s : State) : Host.Outcome State Fault Refusal :=
  if s.phase = .generating then
    .next ((((s.beginEdge.genRound.setZout s.genWord).setZvalid true).setObsv true).setErr .noError)
  else .next (s.reject .useBeforeInitialize)

/-- CLEAR (R177): Reset(), in every phase. -/
def execClear (s : State) : Host.Outcome State Fault Refusal := .next s.resetRegisters

/-- The edge of an ILLEGAL word (R178): ILLEGAL_COMMAND, then the autonomous round. No row of the opcode table. -/
def execIllegal (s : State) : Host.Outcome State Fault Refusal := .next (s.reject .illegalCommand)

end Sys2Proof.Machine
end

