-- ==== Sys2Proof/Machine/Rounds.lean ====
section
/-! DEFINITION. The meanings of the three internal round kinds (43_session_controller.md R179, R180, R181). An edge
selects them by PHASE (30_encoding.md R79); the bodies themselves do not test it (log 8). -/

namespace Sys2Proof.Machine

open Sys2Proof

/-- INIT_ROUND (R179), with OBSV <- 1 of R171. -/
def execInitRound (s : State) : Host.Outcome State Fault Refusal := .next (s.initRound.setObsv true)

/-- WARM_ROUND (R180), with OBSV <- 1 of R171. -/
def execWarmRound (s : State) : Host.Outcome State Fault Refusal := .next (s.warmRound.setObsv true)

/-- GEN_ROUND (R181): writes s, R1 and R2; ZOUT, ZVALID, OBSV and ERR are written by its caller GEN (log 8). -/
def execGenRound (s : State) : Host.Outcome State Fault Refusal := .next s.genRound

end Sys2Proof.Machine
end

