-- ==== Sys2Proof/Machine/Dispatch.lean ====
section
/-! DEFINITION. One arm per row of the opcode table. -/

namespace Sys2Proof.Machine

open Sys2Proof

def exec (i : Instr) (s : State) : Host.Outcome State Fault Refusal :=
  match i with
  | .nop => Sys2Proof.Machine.execNop s
  | .init klen vlen => Sys2Proof.Machine.execInit klen vlen s
  | .gen => Sys2Proof.Machine.execGen s
  | .clear => Sys2Proof.Machine.execClear s
  | .initRound => Sys2Proof.Machine.execInitRound s
  | .warmRound => Sys2Proof.Machine.execWarmRound s
  | .genRound => Sys2Proof.Machine.execGenRound s

end Sys2Proof.Machine
end

