-- ==== Sys2Proof/Machine/Edge.lean ====
section
/-! DEFINITION. What an edge does with the sampled inputs: the priority of reset, command and autonomous round
(43_session_controller.md R172), and the coming of the next edge's inputs. -/

namespace Sys2Proof.Machine

open Sys2Proof

/-- What the sampled inputs and PHASE make of an edge (R171, R172). -/
inductive EdgeAction where
  /-- rst = 1: Reset(), every other input ignored (70_reset_and_hazards.md R240). -/
  | reset
  /-- cmd_valid = 1 and the word is a command. -/
  | command (i : Instr)
  /-- cmd_valid = 1 and the word is ILLEGAL. -/
  | illegal (e : DecodeError)
  /-- No command, and PHASE calls for a round (R179, R180). -/
  | round (i : Instr)
  /-- No command and no round (R182). -/
  | idle
deriving DecidableEq, Repr

/-- The autonomous round an edge without a command performs: none in UNINITIALIZED and, since GEN_ROUND runs only for
an accepted GEN, none in GENERATING (30_encoding.md R79, R182). -/
def autonomousRound (p : Phase) : EdgeAction :=
  match decodeRound p.code with
  | .ok .initRound => .round .initRound
  | .ok .warmRound => .round .warmRound
  | _ => .idle

/-- The action of the coming edge (R171): rst first, then the command if cmd_valid = 1, else the phase's round. -/
def edgeAction (s : State) : EdgeAction :=
  if s.pins.rst then .reset
  else if s.pins.cmdValid then
    match decodeCommand s.pins.cmd with
    | .ok i => .command i
    | .error e => .illegal e
  else autonomousRound s.phase

/-- The host presents the inputs of the next edge: the first of `pending`, or idle inputs where it has ended (log 1,
log 2). -/
def State.advance (s : State) : State :=
  match s.pending with
  | [] => s.setInputs Pins.idle []
  | p :: ps => s.setInputs p ps

/-- An edge's outcome with the next edge's inputs in place; a fault or a refusal stays as it is. -/
def afterEdge (o : Host.Outcome State Fault Refusal) : Host.Outcome State Fault Refusal :=
  match o with
  | .next s => .next s.advance
  | .fault r => .fault r
  | .refused r => .refused r

/-- The rounds of an edge, one after another; with the one round per edge of 00_scope.md R9 this is that round
(`rounds_one`). A fault or a refusal ends them. -/
def rounds (run : State → Host.Outcome State Fault Refusal) : Nat → State → Host.Outcome State Fault Refusal
  | 0, s => .next s
  | n + 1, s =>
    match run s with
    | .next t => rounds run n t
    | .fault r => .fault r
    | .refused r => .refused r

/-- Inputs that present a command word: rst = 0, cmd_valid = 1; the key and IV ports as they are (log 4). -/
def Pins.present (p : Pins) (cmd : CmdWord) : Pins := { p with rst := false, cmdValid := true, cmd := cmd }

/-- Inputs that present no command: rst = 0, cmd_valid = 0 (log 4). -/
def Pins.presentNone (p : Pins) : Pins := { p with rst := false, cmdValid := false }

/-- The state in which the next step runs the instruction of an encoding (log 4): a command word is put on the `cmd`
port; a round is selected by PHASE, GEN_ROUND by the GEN that alone performs it (R79). -/
def State.presentEncoded (s : State) (e : Encoded) : State :=
  match e with
  | .command cmd => s.setInputs (s.pins.present cmd) s.pending
  | .auto phase =>
    (s.setPhase (Phase.ofCode phase)).setInputs
      (if phase = 0b11#2 then s.pins.present 0x0002#16 else s.pins.presentNone) s.pending

end Sys2Proof.Machine
end

