-- ==== Sys2Proof/Machine/Step.lean ====
section
/-! DEFINITION. One step: one rising edge of `clk` (43_session_controller.md R170, R171). -/

namespace Sys2Proof.Machine

open Sys2Proof

/-- The step function of R171. A round without a command starts from the edge's defaults, as a command's own meaning
does. -/
def step (s : State) : Host.Outcome State Fault Refusal :=
  match edgeAction s with
  | .reset => afterEdge (.next s.resetRegisters)
  | .command i => afterEdge (exec i s)
  | .illegal _ => afterEdge (execIllegal s)
  | .round i => afterEdge (rounds (exec i) Config.roundsPerEdge s.beginEdge)
  | .idle => afterEdge (.next s.beginEdge)

/-- The state whose next step runs the instruction of a word of the opcode table (log 4). -/
def State.withFetchWord (s : State) (nbits w : Nat) : State :=
  match tableWord nbits w with
  | .ok e => s.presentEncoded e
  | .error _ => s

end Sys2Proof.Machine
end

