-- ==== Sys2Proof/Machine/Ports.lean ====
section
/-! DEFINITION. The output ports of 30_encoding.md R71: views of the registers, read without side effect
(20_memory.md R57). -/

namespace Sys2Proof.Machine

open Sys2Proof

/-- The observer ports (60_exceptions.md R225). -/
structure ObserverPorts where
  /-- `obs_valid` = OBSV. -/
  obsValid : Bool
  /-- `obs_s`, 496 bits: `obs_s[31*i+30 : 31*i] = s[i]`. -/
  obsS : BitVec 496
  /-- `obs_r1` = R1. -/
  obsR1 : Word32
  /-- `obs_r2` = R2. -/
  obsR2 : Word32
deriving DecidableEq, Repr

/-- All output ports after an edge. -/
structure Outputs where
  /-- `z_out` = ZOUT (10_state.md R30). -/
  zOut : Word32
  /-- `z_valid` = ZVALID (R31). -/
  zValid : Bool
  /-- `status` (R33). -/
  statusOut : BitVec 16
  /-- The observer ports; absent when OBS_PRESENT is false. -/
  observer : Option ObserverPorts
deriving DecidableEq, Repr

/-- The 496 bits of `obs_s`, `s[15]` at the top and `s[0]` at the bottom (R71). -/
def obsBits (l : Lfsr) : BitVec 496 :=
  (l[15] ++ l[14] ++ l[13] ++ l[12] ++ l[11] ++ l[10] ++ l[9] ++ l[8] ++ l[7] ++ l[6] ++ l[5] ++ l[4] ++ l[3] ++ l[2]
    ++ l[1] ++ l[0] : BitVec 496)

/-- The output ports of a build whose parameter OBS_PRESENT is `obsPresent` (R225: with false the four ports are
absent). -/
def outputsOf (obsPresent : Bool) (s : State) : Outputs where
  zOut := s.zout
  zValid := s.zvalid
  statusOut := status s
  observer := if obsPresent then some ⟨s.obsv, obsBits s.lfsr, s.r1, s.r2⟩ else none

/-- The output ports of this core: OBS_PRESENT as Config gives it (00_scope.md R9; log 7). -/
def outputs (s : State) : Outputs := outputsOf Config.obsPresent s

end Sys2Proof.Machine
end

