-- ==== Sys2Proof/Machine/Program.lean ====
section
/-! DEFINITION. Host programs: the assembler lines of 30_encoding.md R80, one per rising edge, the pseudo-instructions
of R81, and how a program comes to the ports (log 4); and the state at power-up (70_reset_and_hazards.md R240). -/

namespace Sys2Proof.Machine

open Sys2Proof

/-- An assembler line (R80). Keys and IVs are the 128-bit port values: 32 hex digits, byte 0 first. -/
inductive Line where
  /-- `RESET`. -/
  | reset
  /-- `IDLE`. -/
  | idle
  /-- `NOP`. -/
  | nop
  /-- `INIT <key>, <iv>`. -/
  | init (key iv : BitVec 128)
  /-- `INIT.L <klen>, <vlen>, <key>, <iv>`, counts 0..31. -/
  | initL (klen vlen : Nat) (key iv : BitVec 128)
  /-- `GEN`. -/
  | gen
  /-- `CLEAR`. -/
  | clear
  /-- `.WORD 0xHHHH`. -/
  | word (w : CmdWord)
deriving DecidableEq, Repr

/-- The inputs of a line's edge (the table of R80); don't-care inputs are 0 (log 3). -/
def Line.pins : Line → Pins
  | .reset => { Pins.idle with rst := true }
  | .idle => Pins.idle
  | .nop => Pins.idle.present 0x0000#16
  | .init key iv => { Pins.idle.present 0x2101#16 with keyIn := key, ivIn := iv }
  | .initL klen vlen key iv =>
    { Pins.idle.present (0x0001#16 ||| (BitVec.ofNat 16 klen <<< 4) ||| (BitVec.ofNat 16 vlen <<< 9)) with
      keyIn := key, ivIn := iv }
  | .gen => Pins.idle.present 0x0002#16
  | .clear => Pins.idle.present 0x0003#16
  | .word w => Pins.idle.present w

/-- A source line: an assembler line or a pseudo-instruction (R81). -/
inductive SourceLine where
  | line (l : Line)
  /-- `WAIT n`. -/
  | wait (n : Nat)
  /-- `START <key>, <iv>`. -/
  | start (key iv : BitVec 128)
  /-- `GENN n`. -/
  | genn (n : Nat)
deriving DecidableEq, Repr

/-- The expansion of a source line (R81): START is INIT then WAIT 33. -/
def SourceLine.expand : SourceLine → List Line
  | .line l => [l]
  | .wait n => List.replicate n .idle
  | .start key iv => .init key iv :: List.replicate 33 .idle
  | .genn n => List.replicate n .gen

/-- The inputs of a program's edges, in edge order (R80). -/
def programPins (p : List SourceLine) : List Pins := (p.flatMap SourceLine.expand).map Line.pins

/-- The host presents a program from the next edge on (log 4). -/
def State.withProgram (s : State) (p : List SourceLine) : State :=
  match programPins p with
  | [] => s.setInputs Pins.idle []
  | x :: xs => s.setInputs x xs

/-- The state at power-up: POWERUP_STATE, an arbitrary draw for every register (R240, D31; log 6), with what the host
presents. -/
def State.powerUp (p : Pins) (ps : List Pins) : State where
  lfsr := Vector.ofFn Config.powerUpLfsr
  r1 := Config.powerUpR1
  r2 := Config.powerUpR2
  phase := Phase.ofCode Config.powerUpPhase
  rc := Config.powerUpRc
  err := Config.powerUpErr
  zout := Config.powerUpZout
  zvalid := Config.powerUpZvalid
  obsv := Config.powerUpObsv
  pins := p
  pending := ps

end Sys2Proof.Machine
end

