-- ==== Sys2Proof/Safety.lean ====
section
/-! DEFINITION. The terms the statements use: what an edge presents, the invariant of a core that has been reset
(10_state.md R21, R25, R26, R30, R31), the error a command earns (60_exceptions.md R210, R213), and the cipher as plain
arithmetic modulo P, written beside the model and not from it. A safe run is one whose states all meet `State.Inv`;
no step of the core can stop (43_session_controller.md R170). -/

namespace Sys2Proof.Machine

open Sys2Proof

/-! ### What an edge presents -/

/-- The edge accepts an INIT: rst = 0 and the one valid INIT word 0x2101 (30_encoding.md R76). -/
def Pins.isValidInit (p : Pins) : Bool := !p.rst && p.cmdValid && p.cmd == 0x2101#16

/-- The edge presents a CLEAR with rst = 0. -/
def Pins.isClear (p : Pins) : Bool := !p.rst && p.cmdValid && p.cmd == 0x0003#16

/-- The edge presents a GEN with rst = 0. -/
def Pins.isGen (p : Pins) : Bool := !p.rst && p.cmdValid && p.cmd == 0x0002#16

/-- The edge ends the current session: reset, a valid INIT or CLEAR (43_session_controller.md R188). -/
def Pins.endsSession (p : Pins) : Bool := p.rst || p.isValidInit || p.isClear

/-- The same inputs with no command presented. -/
def Pins.withoutCommand (p : Pins) : Pins := { p with cmdValid := false }

/-- The inputs of the k-th edge from `s`; edge 0 is the next one. -/
def State.edgePins (s : State) (k : Nat) : Pins := (s.pins :: s.pending).getD k Pins.idle

/-- R76's three groups of ILLEGAL words, read off the word as a number: OP = w mod 16, RSV = w / 2^14. -/
def illegalWord (cmd : CmdWord) : Bool :=
  decide (4 ≤ cmd.toNat % 16 ∨ (cmd.toNat % 16 = 1 ∧ cmd.toNat / 2 ^ 14 ≠ 0)
    ∨ (cmd.toNat % 16 ≠ 1 ∧ cmd.toNat / 16 ≠ 0))

/-- The code of the error a command word earns in a phase, 0 for none: ILLEGAL first, then the key count, then the IV
count; GEN outside GENERATING (60_exceptions.md R210, R213). -/
def commandError (p : Phase) (cmd : CmdWord) : Nat :=
  if illegalWord cmd then 4
  else if cmd.toNat % 16 = 1 then
    if cmd.toNat / 16 % 32 ≠ 16 then 1 else if cmd.toNat / 512 % 32 ≠ 16 then 2 else 0
  else if cmd.toNat = 2 ∧ p ≠ .generating then 3
  else 0

/-- The number of a phase in the order of 10_state.md R23. -/
def phaseNumber : Phase → Nat
  | .uninitialized => 0
  | .initializing => 1
  | .warming => 2
  | .generating => 3

/-! ### The invariant -/

/-- 10_state.md R21: in a session every LFSR register is in [1, 2^31 - 1]; outside one all session registers are 0. -/
abbrev State.LfsrInv (s : State) : Prop :=
  (s.phase ≠ .uninitialized → ∀ i : Fin 16, s.lfsr[i] ≠ 0#31)
  ∧ (s.phase = .uninitialized → (∀ i : Fin 16, s.lfsr[i] = 0#31) ∧ s.r1 = 0#32 ∧ s.r2 = 0#32)

/-- 10_state.md R25: the relation of PHASE and RC. -/
abbrev State.CounterInv (s : State) : Prop :=
  (s.phase = .uninitialized → s.rc = 0#6)
  ∧ (s.phase = .initializing → s.rc.toNat ≤ 31)
  ∧ (s.phase = .warming ∨ s.phase = .generating → s.rc = 32#6)

/-- 10_state.md R26: ERR is a code of R210, never 5, 6 or 7. -/
abbrev State.ErrInv (s : State) : Prop := s.err.toNat ≤ 4

/-- 10_state.md R30, R31, R32: ZVALID only after a GEN that succeeded, which also ran a round and left ERR = NONE; no
word of an old session stays on ZOUT; no round outside a session. -/
abbrev State.OutputInv (s : State) : Prop :=
  (s.zvalid = true → s.phase = .generating ∧ s.obsv = true ∧ s.err = 0#3)
  ∧ (s.phase ≠ .generating → s.zout = 0#32)
  ∧ (s.obsv = true → s.phase ≠ .uninitialized)

/-- What holds of a core that has been reset once (93_implementation_defined.md U2, U6, U7). -/
abbrev State.Inv (s : State) : Prop := s.LfsrInv ∧ s.CounterInv ∧ s.ErrInv ∧ s.OutputInv

/-- Every register holds the reset column of 10_state.md R37. -/
abbrev State.RegistersReset (s : State) : Prop :=
  (∀ i : Fin 16, s.lfsr[i] = 0#31) ∧ s.r1 = 0#32 ∧ s.r2 = 0#32 ∧ s.phase = .uninitialized ∧ s.rc = 0#6
  ∧ s.err = 0#3 ∧ s.zout = 0#32 ∧ s.zvalid = false ∧ s.obsv = false

/-- The same values on every input of the coming edges. -/
abbrev State.SameInputs (s t : State) : Prop := t.pins = s.pins ∧ t.pending = s.pending

/-! ### The cipher as arithmetic -/

/-- The feedback value of 40_lfsr.md R105 as one sum of integers reduced modulo P. -/
def feedbackSum (l : Lfsr) : Nat :=
  (2 ^ 15 * l[15].toNat + 2 ^ 17 * l[13].toNat + 2 ^ 21 * l[10].toNat + 2 ^ 20 * l[4].toNat
    + (1 + 2 ^ 8) * l[0].toNat) % Config.modulus

/-- What is stored for a residue: 2^31 - 1 stands for 0 (R106, R107). -/
def storedForm (r : Nat) : Nat := if r = 0 then Config.modulus else r

/-- `a` is the high half and `b` the low half of a 32-bit word. -/
def joinHalves (a b : Nat) : Word32 := BitVec.ofNat 32 (a * 2 ^ 16 + b)

/-- X0 of 41_bit_reorganizer.md R131: x / 2^15 is x[30:15], x mod 2^16 is x[15:0]. -/
def cipherX0 (l : Lfsr) : Word32 := joinHalves (l[15].toNat / 2 ^ 15) (l[14].toNat % 2 ^ 16)

/-- X1 (R131). -/
def cipherX1 (l : Lfsr) : Word32 := joinHalves (l[11].toNat % 2 ^ 16) (l[9].toNat / 2 ^ 15)

/-- X2 (R131). -/
def cipherX2 (l : Lfsr) : Word32 := joinHalves (l[7].toNat % 2 ^ 16) (l[5].toNat / 2 ^ 15)

/-- X3 (R131). -/
def cipherX3 (l : Lfsr) : Word32 := joinHalves (l[2].toNat % 2 ^ 16) (l[0].toNat / 2 ^ 15)

/-- W of 42_nonlinear_f.md R144, step 1. -/
def cipherW (x0 r1 r2 : Word32) : Word32 := BitVec.ofNat 32 ((x0 ^^^ r1).toNat + r2.toNat)

/-- The new R1 of R144: S(L1(W1[15:0] ‖ W2[31:16])). -/
def cipherR1 (x1 x2 r1 r2 : Word32) : Word32 :=
  sbox32 (l1 (joinHalves ((r1.toNat + x1.toNat) % 2 ^ 16) ((r2 ^^^ x2).toNat / 2 ^ 16)))

/-- The new R2 of R144: S(L2(W2[15:0] ‖ W1[31:16])). -/
def cipherR2 (x1 x2 r1 r2 : Word32) : Word32 :=
  sbox32 (l2 (joinHalves ((r2 ^^^ x2).toNat % 2 ^ 16) ((r1.toNat + x1.toNat) % 2 ^ 32 / 2 ^ 16)))

/-- The cipher's state: the LFSR, R1 and R2. -/
structure Cipher where
  l : Lfsr
  r1 : Word32
  r2 : Word32
deriving DecidableEq, Repr

/-- F's return value in a round that starts from `c`. -/
def Cipher.w (c : Cipher) : Word32 := cipherW (cipherX0 c.l) c.r1 c.r2

/-- The window one place on, with the residue `r` entering in its stored form (40_lfsr.md R106, R107, R109). -/
def Cipher.shifted (c : Cipher) (r : Nat) : Cipher where
  l := Vector.ofFn fun i : Fin 16 => if h : i.val < 15 then c.l[i.val + 1] else BitVec.ofNat 31 (storedForm r)
  r1 := cipherR1 (cipherX1 c.l) (cipherX2 c.l) c.r1 c.r2
  r2 := cipherR2 (cipherX1 c.l) (cipherX2 c.l) c.r1 c.r2

/-- An initialization round: u = W / 2 enters the sum (43_session_controller.md R179). -/
def Cipher.initRound (c : Cipher) : Cipher :=
  c.shifted ((feedbackSum c.l + c.w.toNat / 2) % Config.modulus)

/-- A warm-up or generation round (R180, R181). -/
def Cipher.workRound (c : Cipher) : Cipher := c.shifted (feedbackSum c.l)

/-- The word a generation round emits (R181). -/
def Cipher.word (c : Cipher) : Word32 := c.w ^^^ cipherX3 c.l

/-- The number Load puts in register i: byte i of the key (the most significant byte is byte 0), D[i], byte i of the
IV (40_lfsr.md R101, 20_memory.md R52). -/
def loadNumber (key iv : BitVec 128) (i : Nat) : Nat :=
  key.toNat / 2 ^ (120 - 8 * i) % 256 * 2 ^ 23 + (dRead i).toNat % 2 ^ 15 * 2 ^ 8 + iv.toNat / 2 ^ (120 - 8 * i) % 256

/-- The cipher right after the load. -/
def Cipher.loaded (key iv : BitVec 128) : Cipher where
  l := Vector.ofFn fun i : Fin 16 => BitVec.ofNat 31 (loadNumber key iv i.val)
  r1 := 0#32
  r2 := 0#32

/-- `k` initialization rounds. -/
def Cipher.initRounds : Nat → Cipher → Cipher
  | 0, c => c
  | k + 1, c => Cipher.initRounds k c.initRound

/-- The cipher from which the first keystream word comes: 32 initialization rounds and one discarded round (R179,
R180). -/
def Cipher.started (key iv : BitVec 128) : Cipher :=
  (Cipher.initRounds Config.initRounds (Cipher.loaded key iv)).workRound

/-- The next `n` keystream words. -/
def Cipher.keystream : Nat → Cipher → List Word32
  | 0, _ => []
  | n + 1, c => c.word :: Cipher.keystream n c.workRound

/-- The cipher state a core holds. -/
def State.cipher (s : State) : Cipher := ⟨s.lfsr, s.r1, s.r2⟩

/-! ### Runs -/

/-- `n` steps: `Sys2Proof.core.run` with the model's own state type (Laws/Step.lean proves them equal). -/
def runEdges : Nat → State → Host.Outcome State Fault Refusal
  | 0, s => .next s
  | n + 1, s =>
    match step s with
    | .next t => runEdges n t
    | .fault r => .fault r
    | .refused r => .refused r

/-- The words a host reads in the next `n` edges: `z_out` after each edge that leaves `z_valid` = 1 (10_state.md R31). -/
def emittedWords : Nat → State → List Word32
  | 0, _ => []
  | n + 1, s =>
    match step s with
    | .next t => (if t.zvalid then [t.zout] else []) ++ emittedWords n t
    | .fault _ => []
    | .refused _ => []

/-- How many of the `n` edges from edge `k` on present a GEN. -/
def State.gensPresented (s : State) (k n : Nat) : Nat :=
  ((List.range n).filter fun j => (s.edgePins (k + j)).isGen).length

end Sys2Proof.Machine
end

