-- ==== Sys2Proof/Certificates/Slice0/Obligations.lean ====
section
/-! DEFINITION. The statements for the provers. Each says in its docstring which rule of spec/ it formalises. A statement
about a next state names what the rule writes and says of every other field that it is unchanged (the frame); the core
has no memory, so there is no memory frame. -/

open Sys2Proof Sys2Proof.Machine

/-! ### Arithmetic modulo P, the load and the update modes (40_lfsr.md) -/

/-- R103: AddMod is addition modulo P, with a reduced result, on the whole widened domain. -/
def Obligations.AddModAddsModuloP : Prop :=
  ∀ a b : Word31, (addMod a b).toNat = (a.toNat + b.toNat) % Config.modulus

/-- R104: for 0 < k < 31 RotMulPow2 is the 31-bit rotation by k, congruent to multiplication by 2^k, and it maps only
0 to 0 and only 2^31 - 1 to 2^31 - 1. -/
def Obligations.RotMulPow2MultipliesByPowerOfTwo : Prop :=
  ∀ (x : Word31) (k : Nat), 0 < k → k < 31 →
    (rotMulPow2 x k).toNat % Config.modulus = x.toNat * 2 ^ k % Config.modulus
    ∧ (∀ i, i < 31 → (rotMulPow2 x k).getLsbD ((i + k) % 31) = x.getLsbD i)
    ∧ (rotMulPow2 x k = 0#31 ↔ x = 0#31)
    ∧ (rotMulPow2 x k = 0x7FFFFFFF#31 ↔ x = 0x7FFFFFFF#31)

/-- R105: Feedback is the weighted sum of the five taps modulo P, s[0] with coefficient 1 + 2^8. -/
def Obligations.FeedbackIsWeightedTapSum : Prop :=
  ∀ l : Lfsr, (feedback l).toNat = feedbackSum l

/-- R106: InitModeUpdate shifts the window by one and stores (feedback + u) mod P, 0 as 2^31 - 1. -/
def Obligations.InitModeUpdateShiftsAndStoresSum : Prop :=
  ∀ (l : Lfsr) (u : Word31),
    (∀ (i : Nat) (h : i < 15), (initModeUpdate l u)[i] = l[i + 1])
    ∧ (initModeUpdate l u)[15].toNat = storedForm ((feedbackSum l + u.toNat) % Config.modulus)

/-- R107: WorkModeUpdate shifts the window by one and stores the feedback, 0 as 2^31 - 1. -/
def Obligations.WorkModeUpdateShiftsAndStoresFeedback : Prop :=
  ∀ l : Lfsr,
    (∀ (i : Nat) (h : i < 15), (workModeUpdate l)[i] = l[i + 1])
    ∧ (workModeUpdate l)[15].toNat = storedForm (feedbackSum l)

/-- R108: both updates keep every register in [1, 2^31 - 1], and the new s[15] is in it whatever the old file. -/
def Obligations.UpdatesKeepLfsrInRange : Prop :=
  ∀ (l : Lfsr) (u : Word31),
    ((initModeUpdate l u)[15] ≠ 0#31 ∧ (workModeUpdate l)[15] ≠ 0#31)
    ∧ ((∀ i : Fin 16, l[i] ≠ 0#31) →
        ∀ i : Fin 16, (initModeUpdate l u)[i] ≠ 0#31 ∧ (workModeUpdate l)[i] ≠ 0#31)

/-- R101 with R52: register i of the load is key byte i, D[i][14:0], IV byte i, byte 0 the most significant of the
port, and lies in [0x0009AF00, 0x7FF89AFF]. -/
def Obligations.LoadPacksKeyConstantAndIv : Prop :=
  ∀ (key iv : BitVec 128) (i : Nat) (h : i < 16),
    (load key iv)[i].toNat = loadNumber key iv i
    ∧ 0x0009AF00 ≤ (load key iv)[i].toNat ∧ (load key iv)[i].toNat ≤ 0x7FF89AFF

/-! ### Bit reorganizer (41_bit_reorganizer.md) -/

/-- R131 with R130: the four words, each a join of two half-words, x[30:15] being x / 2^15 and x[15:0] x mod 2^16. -/
def Obligations.BitReorganizePacksHalves : Prop :=
  ∀ l : Lfsr,
    (bitReorganize l).x0 = cipherX0 l ∧ (bitReorganize l).x1 = cipherX1 l
    ∧ (bitReorganize l).x2 = cipherX2 l ∧ (bitReorganize l).x3 = cipherX3 l

/-! ### Nonlinear function (42_nonlinear_f.md) -/

/-- R140: rotl32 moves bit i to bit i + k modulo 32, and rotations compose by adding amounts modulo 32. -/
def Obligations.Rotl32MovesBitsAndComposes : Prop :=
  ∀ (x : Word32) (k m : Nat),
    (∀ i, i < 32 → (rotl32 x k).getLsbD ((i + k) % 32) = x.getLsbD i)
    ∧ rotl32 (rotl32 x k) m = rotl32 x ((k + m) % 32)

/-- R141, R142: bit i of L1(x) and of L2(x) is the exclusive or of five bits of x, and both are linear. -/
def Obligations.LinearTransformsXorFiveRotations : Prop :=
  ∀ x y : Word32,
    (∀ i, i < 32 → (l1 x).getLsbD i =
      (x.getLsbD i ^^ x.getLsbD ((i + 30) % 32) ^^ x.getLsbD ((i + 22) % 32) ^^ x.getLsbD ((i + 14) % 32)
        ^^ x.getLsbD ((i + 8) % 32)))
    ∧ (∀ i, i < 32 → (l2 x).getLsbD i =
      (x.getLsbD i ^^ x.getLsbD ((i + 24) % 32) ^^ x.getLsbD ((i + 18) % 32) ^^ x.getLsbD ((i + 10) % 32)
        ^^ x.getLsbD ((i + 2) % 32)))
    ∧ l1 (x ^^^ y) = l1 x ^^^ l1 y ∧ l2 (x ^^^ y) = l2 x ^^^ l2 y

/-- R143: Sbox32 substitutes its four byte lanes independently through S0, S1, S0, S1 from the most significant down, and
is a bijection on 32-bit words. -/
def Obligations.SboxLayerIsLanewiseBijection : Prop :=
  (∀ x : Word32,
    (sbox32 x).toNat / 2 ^ 24 = (s0Read (BitVec.ofNat 8 (x.toNat / 2 ^ 24))).toNat
    ∧ (sbox32 x).toNat / 2 ^ 16 % 256 = (s1Read (BitVec.ofNat 8 (x.toNat / 2 ^ 16))).toNat
    ∧ (sbox32 x).toNat / 2 ^ 8 % 256 = (s0Read (BitVec.ofNat 8 (x.toNat / 2 ^ 8))).toNat
    ∧ (sbox32 x).toNat % 256 = (s1Read (BitVec.ofNat 8 x.toNat)).toNat)
  ∧ Function.Bijective sbox32

/-- R144: F's word and the new R1 and R2, with sums modulo 2^32 and the half selection of the rule. -/
def Obligations.NonlinearFComputesWordAndFeedback : Prop :=
  ∀ x0 x1 x2 r1 r2 : Word32,
    (nonlinearF x0 x1 x2 r1 r2).w = cipherW x0 r1 r2
    ∧ (nonlinearF x0 x1 x2 r1 r2).r1 = cipherR1 x1 x2 r1 r2
    ∧ (nonlinearF x0 x1 x2 r1 r2).r2 = cipherR2 x1 x2 r1 r2

/-! ### Rounds (43_session_controller.md) -/

/-- R179: INIT_ROUND completes in every state, and its effect: the cipher's initialization round on s, R1 and R2, RC one
higher, PHASE to WARMING at the round that had RC = 31, OBSV = 1; nothing else changes. It is what an edge in INITIALIZING
performs that carries no reset, no valid INIT and no CLEAR. What exec does in another phase or with RC above 31, states in
which no reset core runs it, is the model's own (log 8, log 11). -/
def Obligations.InitRoundCompletes : Prop :=
  ∀ s : State, ∃ t, exec .initRound s = .next t
    ∧ t.cipher = s.cipher.initRound
    ∧ t.rc = s.rc + 1#6 ∧ t.phase = (if s.rc = 31#6 then .warming else s.phase) ∧ t.obsv = true
    ∧ t.err = s.err ∧ t.zout = s.zout ∧ t.zvalid = s.zvalid ∧ s.SameInputs t
    ∧ (s.phase = .initializing → s.pins.endsSession = false → ∃ u, step s = .next u
        ∧ u.cipher = t.cipher ∧ u.rc = t.rc ∧ u.phase = t.phase ∧ u.obsv = true)

/-- R180: WARM_ROUND completes in every state, and its effect: the cipher's work round, W discarded, PHASE to
GENERATING, OBSV = 1; nothing else changes. It is what an edge in WARMING performs that carries no reset, no valid INIT and
no CLEAR. What exec does in another phase is the model's own (log 8). -/
def Obligations.WarmRoundCompletes : Prop :=
  ∀ s : State, ∃ t, exec .warmRound s = .next t
    ∧ t.cipher = s.cipher.workRound
    ∧ t.phase = .generating ∧ t.obsv = true
    ∧ t.rc = s.rc ∧ t.err = s.err ∧ t.zout = s.zout ∧ t.zvalid = s.zvalid ∧ s.SameInputs t
    ∧ (s.phase = .warming → s.pins.endsSession = false → ∃ u, step s = .next u
        ∧ u.cipher = t.cipher ∧ u.rc = t.rc ∧ u.phase = t.phase ∧ u.obsv = true)

/-- R181: GEN_ROUND completes in every state: it returns W xor X3 and writes s, R1 and R2; nothing else changes. It is the
round of an edge on which a GEN succeeds, and ZOUT takes its word. What exec does in another phase is the model's own
(log 8). -/
def Obligations.GenRoundCompletes : Prop :=
  ∀ s : State, s.genWord = s.cipher.word ∧ ∃ t, exec .genRound s = .next t
    ∧ t.cipher = s.cipher.workRound
    ∧ t.phase = s.phase ∧ t.rc = s.rc ∧ t.err = s.err ∧ t.zout = s.zout ∧ t.zvalid = s.zvalid ∧ t.obsv = s.obsv
    ∧ s.SameInputs t
    ∧ (s.pins.isGen = true → s.phase = .generating → ∃ u, step s = .next u
        ∧ u.cipher = t.cipher ∧ u.zout = s.genWord)

/-! ### Commands (43_session_controller.md) -/

/-- R174: NOP completes in every state: ZVALID and OBSV are cleared, then INITIALIZING runs INIT_ROUND and WARMING
WARM_ROUND; in the other phases nothing else changes. ERR is never written. An edge with cmd_valid = 0 is the same. -/
def Obligations.NopCompletes : Prop :=
  ∀ s : State, ∃ t, exec .nop s = .next t
    ∧ t.err = s.err ∧ t.zout = s.zout ∧ t.zvalid = false ∧ s.SameInputs t
    ∧ (s.phase = .uninitialized ∨ s.phase = .generating → t = { s with zvalid := false, obsv := false })
    ∧ (s.phase = .initializing → exec .initRound { s with zvalid := false, obsv := false } = .next t)
    ∧ (s.phase = .warming → exec .warmRound { s with zvalid := false, obsv := false } = .next t)
    ∧ (s.pins.rst = false → s.pins.cmdValid = false → step s = afterEdge (.next t))

/-- R175: INIT. A key count other than 16 is rejected with code 1, else an IV count other than 16 with code 2: the edge
is then that of a NOP but for ERR. With both 16 a new session is loaded, in every phase; the inputs stay. Counts
of 32 and more, which no word holds, are the model's own (log 14). -/
def Obligations.InitStartsSessionOrRejects : Prop :=
  ∀ (klen vlen : Nat) (s : State),
    (klen ≠ 16 → ∃ t, exec (.init klen vlen) s = .next t ∧ exec .nop { s with err := 1#3 } = .next t ∧ t.err = 1#3)
    ∧ (klen = 16 → vlen ≠ 16 →
        ∃ t, exec (.init klen vlen) s = .next t ∧ exec .nop { s with err := 2#3 } = .next t ∧ t.err = 2#3)
    ∧ (klen = 16 → vlen = 16 →
        ∃ t, exec (.init klen vlen) s = .next t
          ∧ t.cipher = Cipher.loaded s.pins.keyIn s.pins.ivIn
          ∧ t.phase = .initializing ∧ t.rc = 0#6 ∧ t.err = 0#3 ∧ t.zout = 0#32 ∧ t.zvalid = false ∧ t.obsv = false
          ∧ s.SameInputs t)

/-- R176: GEN. In GENERATING it completes: the next keystream word on ZOUT, ZVALID = OBSV = 1, ERR = NONE, the cipher one
work round on, PHASE and RC unchanged. In every other phase it is rejected with code 3 and the edge is that of a NOP but
for ERR. -/
def Obligations.GenEmitsWordOrRejects : Prop :=
  ∀ s : State,
    (s.phase = .generating → ∃ t, exec .gen s = .next t
      ∧ t.zout = s.cipher.word ∧ t.zvalid = true ∧ t.obsv = true ∧ t.err = 0#3
      ∧ t.cipher = s.cipher.workRound
      ∧ t.phase = s.phase ∧ t.rc = s.rc ∧ s.SameInputs t)
    ∧ (s.phase ≠ .generating →
        ∃ t, exec .gen s = .next t ∧ exec .nop { s with err := 3#3 } = .next t ∧ t.err = 3#3 ∧ t.zvalid = false)

/-- R177: CLEAR completes in every phase and writes the reset value of R37 to every register; the inputs stay. -/
def Obligations.ClearWritesResetColumn : Prop :=
  ∀ s : State, ∃ t, exec .clear s = .next t ∧ t.RegistersReset ∧ s.SameInputs t

/-! ### The step (43_session_controller.md R170 to R172, R178; 70_reset_and_hazards.md R240) -/

/-- R170: every step and every instruction answers a next state. -/
def Obligations.EveryEdgeCompletes : Prop :=
  (∀ s : State, ∃ t, step s = .next t) ∧ (∀ (i : Instr) (s : State), ∃ t, exec i s = .next t)

/-- R171: a step runs the instruction its inputs and PHASE select, and then the host presents the next inputs. The
advance of the inputs is the model's own (log 1). -/
def Obligations.StepRunsSelectedInstruction : Prop :=
  ∀ s : State, s.pins.rst = false →
    (∀ i, s.pins.cmdValid = true → decodeCommand s.pins.cmd = .ok i → step s = afterEdge (exec i s))
    ∧ (s.pins.cmdValid = false → s.phase = .initializing →
        step s = afterEdge (exec .initRound { s with zvalid := false, obsv := false }))
    ∧ (s.pins.cmdValid = false → s.phase = .warming →
        step s = afterEdge (exec .warmRound { s with zvalid := false, obsv := false }))
    ∧ (s.pins.cmdValid = false → s.phase = .uninitialized ∨ s.phase = .generating →
        step s = afterEdge (.next { s with zvalid := false, obsv := false }))

/-- The model's own (log 1, log 2): after an edge the inputs are the first of the pending ones, or idle, and no register
changes. -/
def Obligations.AdvancePresentsNextInputs : Prop :=
  ∀ s : State,
    (s.pending = [] → s.advance = { s with pins := Pins.idle })
    ∧ (∀ p ps, s.pending = p :: ps → s.advance = { s with pins := p, pending := ps })
    ∧ afterEdge (.next s) = .next s.advance

/-- R178: an edge with an ILLEGAL word is the edge without a command that starts with ERR = 4. -/
def Obligations.IllegalWordSetsErrAndKeepsRound : Prop :=
  ∀ s : State, s.pins.rst = false → s.pins.cmdValid = true → illegalWord s.pins.cmd = true →
    ∃ t, step s = .next t ∧ t.err = 4#3 ∧ step { s with err := 4#3, pins := s.pins.withoutCommand } = .next t

/-- R241: a reset edge writes the reset column to every register, from any state, STATUS and z_out read 0 after it, and
CLEAR performs the same Reset(). -/
def Obligations.ResetEdgeWritesResetColumn : Prop :=
  ∀ s : State, s.pins.rst = true →
    ∃ t, step s = .next t ∧ t.RegistersReset ∧ status t = 0#16 ∧ (outputs t).zOut = 0#32
      ∧ step s = afterEdge (exec .clear s)

/-- R240: on an edge with rst = 1 every other input and the old state are ignored: two states that agree only in what
the host presents afterwards step to one state. -/
def Obligations.ResetIgnoresOtherInputs : Prop :=
  ∀ s t : State, s.pins.rst = true → t.pins.rst = true → s.pending = t.pending → step s = step t

/-- R212: a rejected command acts as no command at all but for ERR, which takes the code of its error. -/
def Obligations.RejectedCommandChangesOnlyErr : Prop :=
  ∀ s : State, s.pins.rst = false → s.pins.cmdValid = true → commandError s.phase s.pins.cmd ≠ 0 →
    ∃ t, step s = .next t ∧ t.zvalid = false
      ∧ step { s with err := BitVec.ofNat 3 (commandError s.phase s.pins.cmd), pins := s.pins.withoutCommand }
          = .next t

/-- R211 with R210 and R213: ERR after an edge: the code of the command's error, 0 after a command that succeeded, the old
value after NOP or no command, 0 after reset. -/
def Obligations.ErrReportsLastCommand : Prop :=
  ∀ s : State, ∃ t, step s = .next t
    ∧ (s.pins.rst = true → t.err = 0#3)
    ∧ (s.pins.rst = false → s.pins.cmdValid = false ∨ s.pins.cmd = 0x0000#16 → t.err = s.err)
    ∧ (s.pins.rst = false → s.pins.cmdValid = true → s.pins.cmd ≠ 0x0000#16 →
        t.err.toNat = commandError s.phase s.pins.cmd)

/-- R185: the complete list of phase transitions, in states that meet the invariant (log 11). -/
def Obligations.PhaseTransitionsAreComplete : Prop :=
  ∀ s : State, s.Inv → ∃ t, step s = .next t
    ∧ (s.pins.rst = true ∨ s.pins.isClear = true → t.phase = .uninitialized ∧ t.rc = 0#6)
    ∧ (s.pins.isValidInit = true → t.phase = .initializing ∧ t.rc = 0#6)
    ∧ (s.pins.endsSession = false →
        (s.phase = .initializing → s.rc = 31#6 → t.phase = .warming ∧ t.rc = 32#6)
        ∧ (s.phase = .initializing → s.rc ≠ 31#6 → t.phase = .initializing ∧ t.rc.toNat = s.rc.toNat + 1)
        ∧ (s.phase = .warming → t.phase = .generating ∧ t.rc = s.rc)
        ∧ (s.phase = .uninitialized ∨ s.phase = .generating → t.phase = s.phase ∧ t.rc = s.rc))

/-- R182: in UNINITIALIZED and GENERATING an edge that neither ends the session nor is an accepted GEN leaves s, R1, R2,
PHASE, RC and ZOUT as they are. -/
def Obligations.IdlePhasesKeepSession : Prop :=
  ∀ s : State, s.phase = .uninitialized ∨ s.phase = .generating → s.pins.endsSession = false →
    (s.phase = .generating → s.pins.isGen = false) →
    ∃ t, step s = .next t ∧ t.cipher = s.cipher ∧ t.phase = s.phase ∧ t.rc = s.rc ∧ t.zout = s.zout
      ∧ t.zvalid = false ∧ t.obsv = false

/-- R31: ZVALID after an edge is 1 exactly when a GEN succeeded on it; it drives `z_valid` and STATUS[13:13]; while it is 1,
`z_out` is the word that GEN emitted. -/
def Obligations.ZvalidMarksSuccessfulGen : Prop :=
  ∀ s : State, ∃ t, step s = .next t ∧ (t.zvalid = true ↔ s.pins.isGen = true ∧ s.phase = .generating)
    ∧ (outputs t).zValid = t.zvalid ∧ (status t).getLsbD 13 = t.zvalid
    ∧ ((outputs t).zValid = true → (outputs t).zOut = s.cipher.word)

/-- R32: OBSV after an edge is 1 exactly when a round of any kind was performed on it: an edge that does not end the
session, in INITIALIZING or WARMING, or an accepted GEN; it drives `obs_valid` where the observer ports are present. -/
def Obligations.ObsvMarksRound : Prop :=
  ∀ s : State, ∃ t, step s = .next t
    ∧ (t.obsv = true ↔ s.pins.endsSession = false
        ∧ (s.phase = .initializing ∨ s.phase = .warming ∨ s.phase = .generating ∧ s.pins.isGen = true))
    ∧ ∃ o, (outputsOf true t).observer = some o ∧ o.obsValid = t.obsv

/-- R30: ZOUT is the emitted word after a successful GEN, 0 after INIT, CLEAR and reset, and unchanged by every other
edge; it drives `z_out`. -/
def Obligations.ZoutHoldsLastWord : Prop :=
  ∀ s : State, ∃ t, step s = .next t
    ∧ (s.pins.endsSession = true → t.zout = 0#32)
    ∧ (s.pins.isGen = true → s.phase = .generating → t.zout = s.cipher.word)
    ∧ (s.pins.endsSession = false → ¬ (s.pins.isGen = true ∧ s.phase = .generating) → t.zout = s.zout)
    ∧ (outputs t).zOut = t.zout

/-- R70 (decision D26): an edge with cmd_valid = 0 does exactly what an edge with NOP does. -/
def Obligations.NoCommandActsAsNop : Prop :=
  ∀ s : State, s.pins.rst = false → s.pins.cmdValid = false →
    step s = step { s with pins := { s.pins with cmdValid := true, cmd := 0x0000#16 } }

/-- R248 (U10): the key and IV ports are read only on the edge of a valid INIT with rst = 0; on every other edge their
values have no effect. -/
def Obligations.KeyAndIvReadOnlyByValidInit : Prop :=
  ∀ (s : State) (key iv : BitVec 128), s.pins.isValidInit = false →
    step s = step { s with pins := { s.pins with keyIn := key, ivIn := iv } }

/-- D10 with R175 and R187: what a valid INIT leaves depends on the key and the IV alone: two states that present one, with
the same key and IV and the same inputs afterwards, step to one state, whatever sessions they held. -/
def Obligations.ValidInitForgetsOldSession : Prop :=
  ∀ s t : State, s.pins.isValidInit = true → t.pins.isValidInit = true → s.pins.keyIn = t.pins.keyIn →
    s.pins.ivIn = t.pins.ivIn → s.pending = t.pending → step s = step t

/-! ### Encoding (30_encoding.md) -/

/-- R75 to R79: decoding the encoding of a well-formed instruction gives it back, every operand at every value; and an
encoding of either format that decodes is the encoding of the well-formed instruction it decodes to. -/
def Obligations.DecodeAndEncodeAgree : Prop :=
  (∀ i : Instr, i.wellFormed = true → decode (encode i) = .ok i)
  ∧ (∀ (e : Encoded) (i : Instr), decode e = .ok i → i.wellFormed = true ∧ encode i = e)

/-- R75, R76: a word decodes to a command exactly when it is none of R76's ILLEGAL words, and then exactly one row of the
opcode table covers it; no row covers an ILLEGAL word, which is rejected under its group's name. -/
def Obligations.LegalWordsAreExactlyTheTableRows : Prop :=
  ∀ w : CmdWord,
    ((∃ i, decodeCommand w = .ok i) ↔ illegalWord w = false)
    ∧ (commandRows.filter fun r => r.covers w).length = (if illegalWord w then 0 else 1)
    ∧ (illegalWord w = true → decodeCommand w = .error
        (if 4 ≤ w.toNat % 16 then .reservedOp else if w.toNat % 16 = 1 then .reservedBits else .operandBits))

/-- The model's own (log 4, log 5): the next step of `s.withFetchWord nbits w` runs the instruction the decoder reads from
the table word: a command on the `cmd` port, a round by its PHASE, GEN_ROUND inside the GEN that alone performs it. -/
def Obligations.FetchedTableWordRunsNext : Prop :=
  ∀ (s : State) (nbits w : Nat) (i : Instr), decodeTableWord nbits w = some i →
    (commandBits ≤ nbits → step (s.withFetchWord nbits w) = afterEdge (exec i (s.withFetchWord nbits w)))
    ∧ (nbits < commandBits → i = .initRound ∨ i = .warmRound →
        step (s.withFetchWord nbits w)
          = afterEdge (exec i { s.withFetchWord nbits w with zvalid := false, obsv := false }))
    ∧ (nbits < commandBits → i = .genRound →
        (s.withFetchWord nbits w).phase = .generating
        ∧ step (s.withFetchWord nbits w) = afterEdge (exec .gen (s.withFetchWord nbits w)))

/-- Words written out from R72 and R73 and from 95_test_vectors.md 2.9 decode to the commands they stand for; the codes
of R79 select the rounds. -/
def Obligations.WrittenOutWordsDecode : Prop :=
  decodeCommand 0x0000#16 = .ok .nop ∧ decodeCommand 0x2101#16 = .ok (.init 16 16)
  ∧ decodeCommand 0x20F1#16 = .ok (.init 15 16) ∧ decodeCommand 0x1F01#16 = .ok (.init 16 15)
  ∧ decodeCommand 0x3FF1#16 = .ok (.init 31 31) ∧ decodeCommand 0x0002#16 = .ok .gen
  ∧ decodeCommand 0x0003#16 = .ok .clear ∧ decodeCommand 0x4101#16 = .error .reservedBits
  ∧ decodeCommand 0x0012#16 = .error .operandBits ∧ decodeCommand 0x0004#16 = .error .reservedOp
  ∧ decodeRound 0b01#2 = .ok .initRound ∧ decodeRound 0b10#2 = .ok .warmRound ∧ decodeRound 0b11#2 = .ok .genRound

/-- R80: the assembler lines present the inputs of their row, one line per edge in edge order; INIT.L presents an INIT with
its two counts, at every value the fields admit. Don't-care inputs are the model's choice (log 3) and are not stated; that
the host presents the program from the next edge on is the model's own (log 4). -/
def Obligations.AssemblerLinesPresentTheirInputs : Prop :=
  Line.reset.pins.rst = true
  ∧ (Line.idle.pins.rst = false ∧ Line.idle.pins.cmdValid = false)
  ∧ (∀ l ∈ [(Line.nop, 0x0000#16), (Line.gen, 0x0002#16), (Line.clear, 0x0003#16)],
      l.1.pins.rst = false ∧ l.1.pins.cmdValid = true ∧ l.1.pins.cmd = l.2)
  ∧ (∀ key iv, (Line.init key iv).pins = ⟨false, true, 0x2101#16, key, iv⟩)
  ∧ (∀ klen vlen key iv, klen < 32 → vlen < 32 →
      ∃ w, (Line.initL klen vlen key iv).pins = ⟨false, true, w, key, iv⟩ ∧ decodeCommand w = .ok (.init klen vlen))
  ∧ (∀ w, (Line.word w).pins = ⟨false, true, w, 0#128, 0#128⟩)
  ∧ (∀ (s : State) (p : List Line) (k : Nat),
      (s.withProgram (p.map .line)).edgePins k = (p.map Line.pins).getD k Pins.idle)

/-- R81: the pseudo-instructions present what their expansions do: WAIT n is n IDLE lines, START an INIT and WAIT 33, GENN n
is n GEN lines; and the lines of a program follow one another. -/
def Obligations.PseudoInstructionsExpand : Prop :=
  (∀ n, programPins [.wait n] = List.replicate n Line.idle.pins)
  ∧ (∀ key iv, programPins [.start key iv] = (Line.init key iv).pins :: programPins [.wait 33])
  ∧ (∀ n, programPins [.genn n] = List.replicate n Line.gen.pins)
  ∧ (∀ p q, programPins (p ++ q) = programPins p ++ programPins q)

/-! ### Output ports (10_state.md R33, 60_exceptions.md R225) -/

/-- R33: STATUS as a number: PHASE, RC, ERR, READY, BUSY and ZVALID at bits 0, 2, 8, 11, 12 and 13, the top two bits 0; it
is what the `status` port shows. -/
def Obligations.StatusWordLayout : Prop :=
  ∀ s : State, (status s).toNat =
    phaseNumber s.phase + 2 ^ 2 * s.rc.toNat + 2 ^ 8 * s.err.toNat
    + 2 ^ 11 * (if s.phase = .generating then 1 else 0)
    + 2 ^ 12 * (if s.phase = .initializing ∨ s.phase = .warming then 1 else 0)
    + 2 ^ 13 * (if s.zvalid then 1 else 0)
    ∧ (outputs s).statusOut = status s

/-- R225 with R71: with OBS_PRESENT the observer ports show OBSV, each s[i] at bits 31 i .. 31 i + 30, R1 and R2; without
it they are absent and every other output is the same. -/
def Obligations.ObserverPortsShowRegisters : Prop :=
  ∀ s : State,
    (∃ o, (outputsOf true s).observer = some o ∧ o.obsValid = s.obsv ∧ o.obsR1 = s.r1 ∧ o.obsR2 = s.r2
      ∧ ∀ (i : Nat) (h : i < 16), o.obsS.extractLsb' (31 * i) 31 = s.lfsr[i])
    ∧ (outputsOf false s).observer = none
    ∧ (outputsOf false s).zOut = (outputsOf true s).zOut ∧ (outputsOf false s).zValid = (outputsOf true s).zValid
    ∧ (outputsOf false s).statusOut = (outputsOf true s).statusOut
    ∧ (outputsOf true s).zOut = s.zout ∧ (outputsOf true s).zValid = s.zvalid ∧ (outputsOf true s).statusOut = status s

/-! ### The invariant (10_state.md R21, R25, R26, R30 to R32) -/

/-- The invariant holds at reset (R37). -/
def Obligations.InvariantHoldsAtReset : Prop := State.reset.Inv

/-- R240, U2: one reset edge establishes the invariant from any state whatever, the draw at power-up among them. -/
def Obligations.ResetEdgeEstablishesInvariant : Prop :=
  ∀ s : State, s.pins.rst = true → ∃ t, step s = .next t ∧ t.Inv

/-- R21, R25, R26, R30 to R32: every step keeps the invariant: in a session every s[i] is in [1, 2^31 - 1], outside one the
session registers are 0; RC goes with PHASE; ERR is a code of R210; ZVALID only in GENERATING after a round with no
error; ZOUT is 0 outside GENERATING. -/
def Obligations.StepKeepsInvariant : Prop :=
  ∀ s t : State, s.Inv → step s = .next t → t.Inv

/-! ### Sessions (70_reset_and_hazards.md R245, 43_session_controller.md R187) -/

/-- R245: after a valid INIT accepted at edge 0, while edges 1 .. 33 carry no valid INIT, CLEAR or reset: after edge k,
1 ≤ k ≤ 32, the core has done k initialization rounds, RC = k, and PHASE is INITIALIZING until k = 32 makes it WARMING;
after edge 33 it has done the warm-up round and PHASE = GENERATING. A GEN at an edge 1 .. 33 is rejected; one at edge 34
succeeds. That the inputs of edge k + 1 are in place after edge k, the pending ones and then idle ones, is the model's own
(log 1, log 2). -/
def Obligations.InitializationTakesThirtyThreeEdges : Prop :=
  ∀ s : State, s.pins.isValidInit = true → (∀ k, 1 ≤ k → k ≤ 33 → (s.edgePins k).endsSession = false) →
    (∀ k, k ≤ 32 → ∃ t, runEdges (k + 1) s = .next t
      ∧ t.cipher = Cipher.initRounds k (Cipher.loaded s.pins.keyIn s.pins.ivIn)
      ∧ t.rc.toNat = k ∧ t.phase = (if k = 32 then .warming else .initializing)
      ∧ t.pins = s.edgePins (k + 1)
      ∧ ((s.edgePins (k + 1)).isGen = true → ∃ u, step t = .next u ∧ u.err = 3#3 ∧ u.zvalid = false))
    ∧ ∃ t, runEdges (Config.initRounds + Config.warmRounds + 1) s = .next t
      ∧ t.cipher = Cipher.started s.pins.keyIn s.pins.ivIn
      ∧ t.phase = .generating ∧ t.rc = 32#6 ∧ t.pins = s.edgePins 34
      ∧ ((s.edgePins 34).isGen = true → ∃ u, step t = .next u ∧ u.err = 0#3 ∧ u.zvalid = true)

/-- R187: from a valid INIT, over 34 + n edges none of which ends the session, the words the core emits are the first
words of the cipher's keystream for that key and IV, one for each GEN presented from edge 34 on, in order; idle, NOP and
rejected edges between them change neither the words nor their order, and no word comes before edge 34. -/
def Obligations.SessionEmitsCipherKeystream : Prop :=
  ∀ (s : State) (n : Nat), s.pins.isValidInit = true →
    (∀ k, 1 ≤ k → k < 34 + n → (s.edgePins k).endsSession = false) →
    emittedWords (34 + n) s
      = Cipher.keystream (s.gensPresented 34 n) (Cipher.started s.pins.keyIn s.pins.ivIn)

/-- R187: the n-th word of a session does not depend on when it is asked for: from a state in GENERATING, two hosts that
present the same number of GENs in edges that do not end the session read the same words. -/
def Obligations.WordsDependOnlyOnNumberOfGens : Prop :=
  ∀ (s t : State) (m n : Nat), s.phase = .generating → t.phase = .generating → s.cipher = t.cipher →
    (∀ k, k < m → (s.edgePins k).endsSession = false) → (∀ k, k < n → (t.edgePins k).endsSession = false) →
    s.gensPresented 0 m = t.gensPresented 0 n → emittedWords m s = emittedWords n t
end

