-- ==== Sys2Proof/Laws/State.lean ====
section
/-! SUPPORT. One lemma per field and update of State, each true by rfl (through the lemmas of the
smaller updates where an update is made of several): no later proof unfolds a record update. -/

namespace Sys2Proof.Machine

open Sys2Proof

/-! ### `State.setLfsr` -/

@[simp] theorem State.setLfsr_lfsr (s : State) (l : Lfsr) : (s.setLfsr l).lfsr = l := rfl
@[simp] theorem State.setLfsr_r1 (s : State) (l : Lfsr) : (s.setLfsr l).r1 = s.r1 := rfl
@[simp] theorem State.setLfsr_r2 (s : State) (l : Lfsr) : (s.setLfsr l).r2 = s.r2 := rfl
@[simp] theorem State.setLfsr_phase (s : State) (l : Lfsr) : (s.setLfsr l).phase = s.phase := rfl
@[simp] theorem State.setLfsr_rc (s : State) (l : Lfsr) : (s.setLfsr l).rc = s.rc := rfl
@[simp] theorem State.setLfsr_err (s : State) (l : Lfsr) : (s.setLfsr l).err = s.err := rfl
@[simp] theorem State.setLfsr_zout (s : State) (l : Lfsr) : (s.setLfsr l).zout = s.zout := rfl
@[simp] theorem State.setLfsr_zvalid (s : State) (l : Lfsr) : (s.setLfsr l).zvalid = s.zvalid := rfl
@[simp] theorem State.setLfsr_obsv (s : State) (l : Lfsr) : (s.setLfsr l).obsv = s.obsv := rfl
@[simp] theorem State.setLfsr_pins (s : State) (l : Lfsr) : (s.setLfsr l).pins = s.pins := rfl
@[simp] theorem State.setLfsr_pending (s : State) (l : Lfsr) : (s.setLfsr l).pending = s.pending := rfl

/-! ### `State.setFeedback` -/

@[simp] theorem State.setFeedback_lfsr (s : State) (a b : Word32) : (s.setFeedback a b).lfsr = s.lfsr := rfl
@[simp] theorem State.setFeedback_r1 (s : State) (a b : Word32) : (s.setFeedback a b).r1 = a := rfl
@[simp] theorem State.setFeedback_r2 (s : State) (a b : Word32) : (s.setFeedback a b).r2 = b := rfl
@[simp] theorem State.setFeedback_phase (s : State) (a b : Word32) : (s.setFeedback a b).phase = s.phase := rfl
@[simp] theorem State.setFeedback_rc (s : State) (a b : Word32) : (s.setFeedback a b).rc = s.rc := rfl
@[simp] theorem State.setFeedback_err (s : State) (a b : Word32) : (s.setFeedback a b).err = s.err := rfl
@[simp] theorem State.setFeedback_zout (s : State) (a b : Word32) : (s.setFeedback a b).zout = s.zout := rfl
@[simp] theorem State.setFeedback_zvalid (s : State) (a b : Word32) : (s.setFeedback a b).zvalid = s.zvalid := rfl
@[simp] theorem State.setFeedback_obsv (s : State) (a b : Word32) : (s.setFeedback a b).obsv = s.obsv := rfl
@[simp] theorem State.setFeedback_pins (s : State) (a b : Word32) : (s.setFeedback a b).pins = s.pins := rfl
@[simp] theorem State.setFeedback_pending (s : State) (a b : Word32) : (s.setFeedback a b).pending = s.pending := rfl

/-! ### `State.setPhase` -/

@[simp] theorem State.setPhase_lfsr (s : State) (p : Phase) : (s.setPhase p).lfsr = s.lfsr := rfl
@[simp] theorem State.setPhase_r1 (s : State) (p : Phase) : (s.setPhase p).r1 = s.r1 := rfl
@[simp] theorem State.setPhase_r2 (s : State) (p : Phase) : (s.setPhase p).r2 = s.r2 := rfl
@[simp] theorem State.setPhase_phase (s : State) (p : Phase) : (s.setPhase p).phase = p := rfl
@[simp] theorem State.setPhase_rc (s : State) (p : Phase) : (s.setPhase p).rc = s.rc := rfl
@[simp] theorem State.setPhase_err (s : State) (p : Phase) : (s.setPhase p).err = s.err := rfl
@[simp] theorem State.setPhase_zout (s : State) (p : Phase) : (s.setPhase p).zout = s.zout := rfl
@[simp] theorem State.setPhase_zvalid (s : State) (p : Phase) : (s.setPhase p).zvalid = s.zvalid := rfl
@[simp] theorem State.setPhase_obsv (s : State) (p : Phase) : (s.setPhase p).obsv = s.obsv := rfl
@[simp] theorem State.setPhase_pins (s : State) (p : Phase) : (s.setPhase p).pins = s.pins := rfl
@[simp] theorem State.setPhase_pending (s : State) (p : Phase) : (s.setPhase p).pending = s.pending := rfl

/-! ### `State.setRc` -/

@[simp] theorem State.setRc_lfsr (s : State) (c : BitVec 6) : (s.setRc c).lfsr = s.lfsr := rfl
@[simp] theorem State.setRc_r1 (s : State) (c : BitVec 6) : (s.setRc c).r1 = s.r1 := rfl
@[simp] theorem State.setRc_r2 (s : State) (c : BitVec 6) : (s.setRc c).r2 = s.r2 := rfl
@[simp] theorem State.setRc_phase (s : State) (c : BitVec 6) : (s.setRc c).phase = s.phase := rfl
@[simp] theorem State.setRc_rc (s : State) (c : BitVec 6) : (s.setRc c).rc = c := rfl
@[simp] theorem State.setRc_err (s : State) (c : BitVec 6) : (s.setRc c).err = s.err := rfl
@[simp] theorem State.setRc_zout (s : State) (c : BitVec 6) : (s.setRc c).zout = s.zout := rfl
@[simp] theorem State.setRc_zvalid (s : State) (c : BitVec 6) : (s.setRc c).zvalid = s.zvalid := rfl
@[simp] theorem State.setRc_obsv (s : State) (c : BitVec 6) : (s.setRc c).obsv = s.obsv := rfl
@[simp] theorem State.setRc_pins (s : State) (c : BitVec 6) : (s.setRc c).pins = s.pins := rfl
@[simp] theorem State.setRc_pending (s : State) (c : BitVec 6) : (s.setRc c).pending = s.pending := rfl

/-! ### `State.setErr` -/

@[simp] theorem State.setErr_lfsr (s : State) (e : ErrorKind) : (s.setErr e).lfsr = s.lfsr := rfl
@[simp] theorem State.setErr_r1 (s : State) (e : ErrorKind) : (s.setErr e).r1 = s.r1 := rfl
@[simp] theorem State.setErr_r2 (s : State) (e : ErrorKind) : (s.setErr e).r2 = s.r2 := rfl
@[simp] theorem State.setErr_phase (s : State) (e : ErrorKind) : (s.setErr e).phase = s.phase := rfl
@[simp] theorem State.setErr_rc (s : State) (e : ErrorKind) : (s.setErr e).rc = s.rc := rfl
@[simp] theorem State.setErr_err (s : State) (e : ErrorKind) : (s.setErr e).err = e.code := rfl
@[simp] theorem State.setErr_zout (s : State) (e : ErrorKind) : (s.setErr e).zout = s.zout := rfl
@[simp] theorem State.setErr_zvalid (s : State) (e : ErrorKind) : (s.setErr e).zvalid = s.zvalid := rfl
@[simp] theorem State.setErr_obsv (s : State) (e : ErrorKind) : (s.setErr e).obsv = s.obsv := rfl
@[simp] theorem State.setErr_pins (s : State) (e : ErrorKind) : (s.setErr e).pins = s.pins := rfl
@[simp] theorem State.setErr_pending (s : State) (e : ErrorKind) : (s.setErr e).pending = s.pending := rfl

/-! ### `State.setZout` -/

@[simp] theorem State.setZout_lfsr (s : State) (z : Word32) : (s.setZout z).lfsr = s.lfsr := rfl
@[simp] theorem State.setZout_r1 (s : State) (z : Word32) : (s.setZout z).r1 = s.r1 := rfl
@[simp] theorem State.setZout_r2 (s : State) (z : Word32) : (s.setZout z).r2 = s.r2 := rfl
@[simp] theorem State.setZout_phase (s : State) (z : Word32) : (s.setZout z).phase = s.phase := rfl
@[simp] theorem State.setZout_rc (s : State) (z : Word32) : (s.setZout z).rc = s.rc := rfl
@[simp] theorem State.setZout_err (s : State) (z : Word32) : (s.setZout z).err = s.err := rfl
@[simp] theorem State.setZout_zout (s : State) (z : Word32) : (s.setZout z).zout = z := rfl
@[simp] theorem State.setZout_zvalid (s : State) (z : Word32) : (s.setZout z).zvalid = s.zvalid := rfl
@[simp] theorem State.setZout_obsv (s : State) (z : Word32) : (s.setZout z).obsv = s.obsv := rfl
@[simp] theorem State.setZout_pins (s : State) (z : Word32) : (s.setZout z).pins = s.pins := rfl
@[simp] theorem State.setZout_pending (s : State) (z : Word32) : (s.setZout z).pending = s.pending := rfl

/-! ### `State.setZvalid` -/

@[simp] theorem State.setZvalid_lfsr (s : State) (b : Bool) : (s.setZvalid b).lfsr = s.lfsr := rfl
@[simp] theorem State.setZvalid_r1 (s : State) (b : Bool) : (s.setZvalid b).r1 = s.r1 := rfl
@[simp] theorem State.setZvalid_r2 (s : State) (b : Bool) : (s.setZvalid b).r2 = s.r2 := rfl
@[simp] theorem State.setZvalid_phase (s : State) (b : Bool) : (s.setZvalid b).phase = s.phase := rfl
@[simp] theorem State.setZvalid_rc (s : State) (b : Bool) : (s.setZvalid b).rc = s.rc := rfl
@[simp] theorem State.setZvalid_err (s : State) (b : Bool) : (s.setZvalid b).err = s.err := rfl
@[simp] theorem State.setZvalid_zout (s : State) (b : Bool) : (s.setZvalid b).zout = s.zout := rfl
@[simp] theorem State.setZvalid_zvalid (s : State) (b : Bool) : (s.setZvalid b).zvalid = b := rfl
@[simp] theorem State.setZvalid_obsv (s : State) (b : Bool) : (s.setZvalid b).obsv = s.obsv := rfl
@[simp] theorem State.setZvalid_pins (s : State) (b : Bool) : (s.setZvalid b).pins = s.pins := rfl
@[simp] theorem State.setZvalid_pending (s : State) (b : Bool) : (s.setZvalid b).pending = s.pending := rfl

/-! ### `State.setObsv` -/

@[simp] theorem State.setObsv_lfsr (s : State) (b : Bool) : (s.setObsv b).lfsr = s.lfsr := rfl
@[simp] theorem State.setObsv_r1 (s : State) (b : Bool) : (s.setObsv b).r1 = s.r1 := rfl
@[simp] theorem State.setObsv_r2 (s : State) (b : Bool) : (s.setObsv b).r2 = s.r2 := rfl
@[simp] theorem State.setObsv_phase (s : State) (b : Bool) : (s.setObsv b).phase = s.phase := rfl
@[simp] theorem State.setObsv_rc (s : State) (b : Bool) : (s.setObsv b).rc = s.rc := rfl
@[simp] theorem State.setObsv_err (s : State) (b : Bool) : (s.setObsv b).err = s.err := rfl
@[simp] theorem State.setObsv_zout (s : State) (b : Bool) : (s.setObsv b).zout = s.zout := rfl
@[simp] theorem State.setObsv_zvalid (s : State) (b : Bool) : (s.setObsv b).zvalid = s.zvalid := rfl
@[simp] theorem State.setObsv_obsv (s : State) (b : Bool) : (s.setObsv b).obsv = b := rfl
@[simp] theorem State.setObsv_pins (s : State) (b : Bool) : (s.setObsv b).pins = s.pins := rfl
@[simp] theorem State.setObsv_pending (s : State) (b : Bool) : (s.setObsv b).pending = s.pending := rfl

/-! ### `State.setInputs` -/

@[simp] theorem State.setInputs_lfsr (s : State) (p : Pins) (ps : List Pins) : (s.setInputs p ps).lfsr = s.lfsr := rfl
@[simp] theorem State.setInputs_r1 (s : State) (p : Pins) (ps : List Pins) : (s.setInputs p ps).r1 = s.r1 := rfl
@[simp] theorem State.setInputs_r2 (s : State) (p : Pins) (ps : List Pins) : (s.setInputs p ps).r2 = s.r2 := rfl
@[simp] theorem State.setInputs_phase (s : State) (p : Pins) (ps : List Pins) :
    (s.setInputs p ps).phase = s.phase := rfl
@[simp] theorem State.setInputs_rc (s : State) (p : Pins) (ps : List Pins) : (s.setInputs p ps).rc = s.rc := rfl
@[simp] theorem State.setInputs_err (s : State) (p : Pins) (ps : List Pins) : (s.setInputs p ps).err = s.err := rfl
@[simp] theorem State.setInputs_zout (s : State) (p : Pins) (ps : List Pins) : (s.setInputs p ps).zout = s.zout := rfl
@[simp] theorem State.setInputs_zvalid (s : State) (p : Pins) (ps : List Pins) :
    (s.setInputs p ps).zvalid = s.zvalid := rfl
@[simp] theorem State.setInputs_obsv (s : State) (p : Pins) (ps : List Pins) : (s.setInputs p ps).obsv = s.obsv := rfl
@[simp] theorem State.setInputs_pins (s : State) (p : Pins) (ps : List Pins) : (s.setInputs p ps).pins = p := rfl
@[simp] theorem State.setInputs_pending (s : State) (p : Pins) (ps : List Pins) :
    (s.setInputs p ps).pending = ps := rfl

/-! ### `State.beginEdge` -/

@[simp] theorem State.beginEdge_lfsr (s : State) : s.beginEdge.lfsr = s.lfsr := rfl
@[simp] theorem State.beginEdge_r1 (s : State) : s.beginEdge.r1 = s.r1 := rfl
@[simp] theorem State.beginEdge_r2 (s : State) : s.beginEdge.r2 = s.r2 := rfl
@[simp] theorem State.beginEdge_phase (s : State) : s.beginEdge.phase = s.phase := rfl
@[simp] theorem State.beginEdge_rc (s : State) : s.beginEdge.rc = s.rc := rfl
@[simp] theorem State.beginEdge_err (s : State) : s.beginEdge.err = s.err := rfl
@[simp] theorem State.beginEdge_zout (s : State) : s.beginEdge.zout = s.zout := rfl
@[simp] theorem State.beginEdge_zvalid (s : State) : s.beginEdge.zvalid = false := rfl
@[simp] theorem State.beginEdge_obsv (s : State) : s.beginEdge.obsv = false := rfl
@[simp] theorem State.beginEdge_pins (s : State) : s.beginEdge.pins = s.pins := rfl
@[simp] theorem State.beginEdge_pending (s : State) : s.beginEdge.pending = s.pending := rfl

/-! ### `State.raise` -/

@[simp] theorem State.raise_lfsr (s : State) (e : ErrorKind) : (s.raise e).lfsr = s.lfsr := rfl
@[simp] theorem State.raise_r1 (s : State) (e : ErrorKind) : (s.raise e).r1 = s.r1 := rfl
@[simp] theorem State.raise_r2 (s : State) (e : ErrorKind) : (s.raise e).r2 = s.r2 := rfl
@[simp] theorem State.raise_phase (s : State) (e : ErrorKind) : (s.raise e).phase = s.phase := rfl
@[simp] theorem State.raise_rc (s : State) (e : ErrorKind) : (s.raise e).rc = s.rc := rfl
@[simp] theorem State.raise_err (s : State) (e : ErrorKind) : (s.raise e).err = e.code := rfl
@[simp] theorem State.raise_zout (s : State) (e : ErrorKind) : (s.raise e).zout = s.zout := rfl
@[simp] theorem State.raise_zvalid (s : State) (e : ErrorKind) : (s.raise e).zvalid = s.zvalid := rfl
@[simp] theorem State.raise_obsv (s : State) (e : ErrorKind) : (s.raise e).obsv = s.obsv := rfl
@[simp] theorem State.raise_pins (s : State) (e : ErrorKind) : (s.raise e).pins = s.pins := rfl
@[simp] theorem State.raise_pending (s : State) (e : ErrorKind) : (s.raise e).pending = s.pending := rfl

/-! ### `State.resetRegisters` -/

@[simp] theorem State.resetRegisters_lfsr (s : State) : s.resetRegisters.lfsr = Vector.replicate 16 0#31 := rfl
@[simp] theorem State.resetRegisters_r1 (s : State) : s.resetRegisters.r1 = 0#32 := rfl
@[simp] theorem State.resetRegisters_r2 (s : State) : s.resetRegisters.r2 = 0#32 := rfl
@[simp] theorem State.resetRegisters_phase (s : State) : s.resetRegisters.phase = .uninitialized := rfl
@[simp] theorem State.resetRegisters_rc (s : State) : s.resetRegisters.rc = 0#6 := rfl
@[simp] theorem State.resetRegisters_err (s : State) : s.resetRegisters.err = 0#3 := rfl
@[simp] theorem State.resetRegisters_zout (s : State) : s.resetRegisters.zout = 0#32 := rfl
@[simp] theorem State.resetRegisters_zvalid (s : State) : s.resetRegisters.zvalid = false := rfl
@[simp] theorem State.resetRegisters_obsv (s : State) : s.resetRegisters.obsv = false := rfl
@[simp] theorem State.resetRegisters_pins (s : State) : s.resetRegisters.pins = s.pins := rfl
@[simp] theorem State.resetRegisters_pending (s : State) : s.resetRegisters.pending = s.pending := rfl

/-! ### `State.startSession` -/

@[simp] theorem State.startSession_lfsr (s : State) : s.startSession.lfsr = load s.pins.keyIn s.pins.ivIn := by
  simp [State.startSession]
@[simp] theorem State.startSession_r1 (s : State) : s.startSession.r1 = 0#32 := by simp [State.startSession]
@[simp] theorem State.startSession_r2 (s : State) : s.startSession.r2 = 0#32 := by simp [State.startSession]
@[simp] theorem State.startSession_phase (s : State) : s.startSession.phase = .initializing := by
  simp [State.startSession]
@[simp] theorem State.startSession_rc (s : State) : s.startSession.rc = 0#6 := by simp [State.startSession]
@[simp] theorem State.startSession_err (s : State) : s.startSession.err = 0#3 := by
  simp [State.startSession, ErrorKind.code]
@[simp] theorem State.startSession_zout (s : State) : s.startSession.zout = 0#32 := by simp [State.startSession]
@[simp] theorem State.startSession_zvalid (s : State) : s.startSession.zvalid = s.zvalid := by
  simp [State.startSession]
@[simp] theorem State.startSession_obsv (s : State) : s.startSession.obsv = s.obsv := by simp [State.startSession]
@[simp] theorem State.startSession_pins (s : State) : s.startSession.pins = s.pins := by simp [State.startSession]
@[simp] theorem State.startSession_pending (s : State) : s.startSession.pending = s.pending := by
  simp [State.startSession]

/-! ### `State.genRound` -/

@[simp] theorem State.genRound_lfsr (s : State) : s.genRound.lfsr = workModeUpdate s.lfsr := by simp [State.genRound]
@[simp] theorem State.genRound_r1 (s : State) : s.genRound.r1 = s.roundF.r1 := by simp [State.genRound]
@[simp] theorem State.genRound_r2 (s : State) : s.genRound.r2 = s.roundF.r2 := by simp [State.genRound]
@[simp] theorem State.genRound_phase (s : State) : s.genRound.phase = s.phase := by simp [State.genRound]
@[simp] theorem State.genRound_rc (s : State) : s.genRound.rc = s.rc := by simp [State.genRound]
@[simp] theorem State.genRound_err (s : State) : s.genRound.err = s.err := by simp [State.genRound]
@[simp] theorem State.genRound_zout (s : State) : s.genRound.zout = s.zout := by simp [State.genRound]
@[simp] theorem State.genRound_zvalid (s : State) : s.genRound.zvalid = s.zvalid := by simp [State.genRound]
@[simp] theorem State.genRound_obsv (s : State) : s.genRound.obsv = s.obsv := by simp [State.genRound]
@[simp] theorem State.genRound_pins (s : State) : s.genRound.pins = s.pins := by simp [State.genRound]
@[simp] theorem State.genRound_pending (s : State) : s.genRound.pending = s.pending := by simp [State.genRound]

/-! ### `State.warmRound` -/

@[simp] theorem State.warmRound_lfsr (s : State) : s.warmRound.lfsr = workModeUpdate s.lfsr := by
  simp [State.warmRound]
@[simp] theorem State.warmRound_r1 (s : State) : s.warmRound.r1 = s.roundF.r1 := by simp [State.warmRound]
@[simp] theorem State.warmRound_r2 (s : State) : s.warmRound.r2 = s.roundF.r2 := by simp [State.warmRound]
@[simp] theorem State.warmRound_phase (s : State) : s.warmRound.phase = .generating := rfl
@[simp] theorem State.warmRound_rc (s : State) : s.warmRound.rc = s.rc := by simp [State.warmRound]
@[simp] theorem State.warmRound_err (s : State) : s.warmRound.err = s.err := by simp [State.warmRound]
@[simp] theorem State.warmRound_zout (s : State) : s.warmRound.zout = s.zout := by simp [State.warmRound]
@[simp] theorem State.warmRound_zvalid (s : State) : s.warmRound.zvalid = s.zvalid := by simp [State.warmRound]
@[simp] theorem State.warmRound_obsv (s : State) : s.warmRound.obsv = s.obsv := by simp [State.warmRound]
@[simp] theorem State.warmRound_pins (s : State) : s.warmRound.pins = s.pins := by simp [State.warmRound]
@[simp] theorem State.warmRound_pending (s : State) : s.warmRound.pending = s.pending := by simp [State.warmRound]

/-! ### `State.initRound` -/

@[simp] theorem State.initRound_lfsr (s : State) :
    s.initRound.lfsr = initModeUpdate s.lfsr (s.roundF.w.extractLsb' 1 31) := by simp [State.initRound]
@[simp] theorem State.initRound_r1 (s : State) : s.initRound.r1 = s.roundF.r1 := by simp [State.initRound]
@[simp] theorem State.initRound_r2 (s : State) : s.initRound.r2 = s.roundF.r2 := by simp [State.initRound]
@[simp] theorem State.initRound_phase (s : State) :
    s.initRound.phase = if s.rc.toNat + 1 = Config.initRounds then .warming else s.phase := by simp [State.initRound]
@[simp] theorem State.initRound_rc (s : State) : s.initRound.rc = s.rc + 1#6 := by simp [State.initRound]
@[simp] theorem State.initRound_err (s : State) : s.initRound.err = s.err := by simp [State.initRound]
@[simp] theorem State.initRound_zout (s : State) : s.initRound.zout = s.zout := by simp [State.initRound]
@[simp] theorem State.initRound_zvalid (s : State) : s.initRound.zvalid = s.zvalid := by simp [State.initRound]
@[simp] theorem State.initRound_obsv (s : State) : s.initRound.obsv = s.obsv := by simp [State.initRound]
@[simp] theorem State.initRound_pins (s : State) : s.initRound.pins = s.pins := by simp [State.initRound]
@[simp] theorem State.initRound_pending (s : State) : s.initRound.pending = s.pending := by simp [State.initRound]

end Sys2Proof.Machine
end

