-- ==== Sys2Proof/Laws/Rounds.lean ====
section
/-! SUPPORT. What the shared operations of a round and of a rejection can do, said once: register by register for the
shift and the load, and field by field for the autonomous round and for `reject`. -/

namespace Sys2Proof.Machine

open Sys2Proof

/-! ### The parameters of 00_scope.md R9, as the numbers a proof computes with -/

@[simp] theorem ofNat_modulus : BitVec.ofNat 31 Config.modulus = 0x7FFFFFFF#31 := rfl

@[simp] theorem fitsLenField_eq (n : Nat) : fitsLenField n = decide (n < 32) := rfl

@[simp] theorem commandBits_eq : commandBits = 16 := rfl

/-- One round per edge (R9, decision D9): the rounds of an edge are one run of its round. -/
@[simp] theorem rounds_one (run : State → Host.Outcome State Fault Refusal) (s : State) :
    rounds run Config.roundsPerEdge s = run s := by
  simp only [rounds, Config.roundsPerEdge]
  split <;> simp [*]

/-! ### The register file -/

/-- R109: register i of the shifted file is the old register i + 1. -/
@[simp] theorem shiftIn_getElem_lt (l : Lfsr) (f : Word31) (i : Nat) (h : i < 15) : (shiftIn l f)[i] = l[i + 1] := by
  simp [shiftIn, h]

/-- R109: register 15 of the shifted file is the value that enters. -/
@[simp] theorem shiftIn_getElem_last (l : Lfsr) (f : Word31) : (shiftIn l f)[15] = f := by
  simp [shiftIn]

/-- R101: register i of the load. -/
@[simp] theorem load_getElem (k v : BitVec 128) (i : Nat) (h : i < 16) : (load k v)[i] = loadWord k v i := by
  simp [load]

/-- R106, R107: what enters the register file is never 0. -/
theorem substituteZero_ne_zero (f : Word31) : substituteZero f ≠ 0#31 := by
  unfold substituteZero
  split
  · decide
  · assumption

/-! ### The autonomous round of an edge (R171, R182) -/

theorem State.autonomous_of_initializing {s : State} (h : s.phase = .initializing) :
    s.autonomous = s.initRound.setObsv true := by
  rw [State.autonomous, h]
  rfl

theorem State.autonomous_of_warming {s : State} (h : s.phase = .warming) :
    s.autonomous = s.warmRound.setObsv true := by
  rw [State.autonomous, h]
  rfl

theorem State.autonomous_of_uninitialized {s : State} (h : s.phase = .uninitialized) : s.autonomous = s := by
  simp [State.autonomous, h]

theorem State.autonomous_of_generating {s : State} (h : s.phase = .generating) : s.autonomous = s := by
  simp [State.autonomous, h]

/-- Everything the autonomous round can do. -/
theorem State.autonomous_cases (s : State) :
    (s.phase = .initializing ∧ s.autonomous = s.initRound.setObsv true)
    ∨ (s.phase = .warming ∧ s.autonomous = s.warmRound.setObsv true)
    ∨ ((s.phase = .uninitialized ∨ s.phase = .generating) ∧ s.autonomous = s) := by
  cases h : s.phase
  · exact .inr (.inr ⟨.inl rfl, State.autonomous_of_uninitialized h⟩)
  · exact .inl ⟨rfl, State.autonomous_of_initializing h⟩
  · exact .inr (.inl ⟨rfl, State.autonomous_of_warming h⟩)
  · exact .inr (.inr ⟨.inr rfl, State.autonomous_of_generating h⟩)

/-- The autonomous round never writes ERR, ZOUT, ZVALID or the inputs (10_state.md R38). -/
@[simp] theorem State.autonomous_err (s : State) : s.autonomous.err = s.err := by
  obtain ⟨-, h⟩ | ⟨-, h⟩ | ⟨-, h⟩ := s.autonomous_cases <;> simp [h]

@[simp] theorem State.autonomous_zout (s : State) : s.autonomous.zout = s.zout := by
  obtain ⟨-, h⟩ | ⟨-, h⟩ | ⟨-, h⟩ := s.autonomous_cases <;> simp [h]

@[simp] theorem State.autonomous_zvalid (s : State) : s.autonomous.zvalid = s.zvalid := by
  obtain ⟨-, h⟩ | ⟨-, h⟩ | ⟨-, h⟩ := s.autonomous_cases <;> simp [h]

@[simp] theorem State.autonomous_pins (s : State) : s.autonomous.pins = s.pins := by
  obtain ⟨-, h⟩ | ⟨-, h⟩ | ⟨-, h⟩ := s.autonomous_cases <;> simp [h]

@[simp] theorem State.autonomous_pending (s : State) : s.autonomous.pending = s.pending := by
  obtain ⟨-, h⟩ | ⟨-, h⟩ | ⟨-, h⟩ := s.autonomous_cases <;> simp [h]

/-- No round reads the inputs or writes them: the autonomous round commutes with a change of the inputs. -/
theorem State.autonomous_setInputs (s : State) (p : Pins) (ps : List Pins) :
    (s.setInputs p ps).autonomous = s.autonomous.setInputs p ps := by
  obtain ⟨lfsr, r1, r2, phase, rc, err, zout, zvalid, obsv, pins, pending⟩ := s
  cases phase <;> rfl

/-- No round reads ERR or writes it: the autonomous round commutes with a change of ERR. -/
theorem State.autonomous_setErr (s : State) (e : ErrorKind) : (s.setErr e).autonomous = s.autonomous.setErr e := by
  obtain ⟨lfsr, r1, r2, phase, rc, err, zout, zvalid, obsv, pins, pending⟩ := s
  cases phase <;> rfl

/-! ### Rejecting a command (60_exceptions.md R212) -/

@[simp] theorem State.reject_err (s : State) (e : ErrorKind) : (s.reject e).err = e.code := by simp [State.reject]

@[simp] theorem State.reject_zout (s : State) (e : ErrorKind) : (s.reject e).zout = s.zout := by simp [State.reject]

@[simp] theorem State.reject_zvalid (s : State) (e : ErrorKind) : (s.reject e).zvalid = false := by
  simp [State.reject]

@[simp] theorem State.reject_pins (s : State) (e : ErrorKind) : (s.reject e).pins = s.pins := by simp [State.reject]

@[simp] theorem State.reject_pending (s : State) (e : ErrorKind) : (s.reject e).pending = s.pending := by
  simp [State.reject]

end Sys2Proof.Machine
end

