-- ==== Sys2Proof/Laws/Step.lean ====
section
/-! SUPPORT. What one step can do, said once, and how the inputs of the coming edges move. -/

namespace Sys2Proof.Machine

open Sys2Proof

/-! ### The coming of the next inputs: no register changes -/

@[simp] theorem State.advance_lfsr (s : State) : s.advance.lfsr = s.lfsr := by unfold State.advance; split <;> rfl
@[simp] theorem State.advance_r1 (s : State) : s.advance.r1 = s.r1 := by unfold State.advance; split <;> rfl
@[simp] theorem State.advance_r2 (s : State) : s.advance.r2 = s.r2 := by unfold State.advance; split <;> rfl
@[simp] theorem State.advance_phase (s : State) : s.advance.phase = s.phase := by unfold State.advance; split <;> rfl
@[simp] theorem State.advance_rc (s : State) : s.advance.rc = s.rc := by unfold State.advance; split <;> rfl
@[simp] theorem State.advance_err (s : State) : s.advance.err = s.err := by unfold State.advance; split <;> rfl
@[simp] theorem State.advance_zout (s : State) : s.advance.zout = s.zout := by unfold State.advance; split <;> rfl
@[simp] theorem State.advance_zvalid (s : State) : s.advance.zvalid = s.zvalid := by
  unfold State.advance; split <;> rfl
@[simp] theorem State.advance_obsv (s : State) : s.advance.obsv = s.obsv := by unfold State.advance; split <;> rfl

@[simp] theorem State.edgePins_zero (s : State) : s.edgePins 0 = s.pins := rfl

/-- One edge moves the schedule by one place. -/
@[simp] theorem State.advance_edgePins (s : State) (k : Nat) : s.advance.edgePins k = s.edgePins (k + 1) := by
  unfold State.advance State.edgePins
  split
  · rename_i h
    cases k <;> simp [h]
  · rename_i h
    simp [h]

/-- The schedule depends on the inputs alone. -/
theorem State.edgePins_congr {s t : State} (h : s.pins = t.pins) (h' : s.pending = t.pending) (k : Nat) :
    s.edgePins k = t.edgePins k := by
  simp [State.edgePins, h, h']

/-! ### Runs -/

theorem runEdges_one {s t : State} (h : step s = .next t) : runEdges 1 s = .next t := by simp [runEdges, h]

/-- A run of m + n edges is a run of m edges and then one of n. -/
theorem runEdges_add {s t : State} {m : Nat} (n : Nat) (h : runEdges m s = .next t) :
    runEdges (m + n) s = runEdges n t := by
  induction m generalizing s with
  | zero =>
    cases h
    rw [Nat.zero_add]
  | succ m ih =>
    rw [Nat.add_right_comm]
    simp only [runEdges] at h ⊢
    split at h
    · exact ih h
    · cases h
    · cases h

/-- The model's runs are those of the host's interface. -/
theorem core_run_eq_runEdges (n : Nat) (s : State) : Sys2Proof.core.run n s = runEdges n s := by
  induction n generalizing s with
  | zero => rfl
  | succ n ih =>
    have hc : Sys2Proof.core.step s = step s := rfl
    cases hs : step s with
    | next t =>
      simp only [Host.Core.run, runEdges, hc, hs]
      exact ih t
    | fault r =>
      simp only [Host.Core.run, runEdges, hc, hs]
      rfl
    | refused r =>
      simp only [Host.Core.run, runEdges, hc, hs]
      rfl

/-! ### The action of an edge (43_session_controller.md R172) -/

theorem edgeAction_of_rst {s : State} (h : s.pins.rst = true) : edgeAction s = .reset := by simp [edgeAction, h]

theorem edgeAction_of_command {s : State} {i : Instr} (h : s.pins.rst = false) (hv : s.pins.cmdValid = true)
    (hd : decodeCommand s.pins.cmd = .ok i) : edgeAction s = .command i := by
  simp [edgeAction, h, hv, hd]

theorem edgeAction_of_illegal {s : State} {e : DecodeError} (h : s.pins.rst = false) (hv : s.pins.cmdValid = true)
    (hd : decodeCommand s.pins.cmd = .error e) : edgeAction s = .illegal e := by
  simp [edgeAction, h, hv, hd]

theorem edgeAction_of_no_command {s : State} (h : s.pins.rst = false) (hv : s.pins.cmdValid = false) :
    edgeAction s = autonomousRound s.phase := by
  simp [edgeAction, h, hv]

/-- Without a command, an edge is its defaults and the autonomous round. -/
theorem step_of_no_command {s : State} (h : s.pins.rst = false) (hv : s.pins.cmdValid = false) :
    step s = .next s.beginEdge.autonomous.advance := by
  rw [step, edgeAction_of_no_command h hv]
  cases hp : s.phase <;>
    simp [autonomousRound, Phase.code, decodeRound, afterEdge, exec, execInitRound, execWarmRound, hp,
      State.autonomous_of_initializing, State.autonomous_of_warming, State.autonomous_of_uninitialized,
      State.autonomous_of_generating]

/-- Everything a step can do: one case per outcome of R172's priority. -/
theorem step_cases {s t : State} (h : step s = .next t) :
    (s.pins.rst = true ∧ t = s.resetRegisters.advance)
    ∨ (s.pins.rst = false ∧ s.pins.cmdValid = true
        ∧ ∃ i u, decodeCommand s.pins.cmd = .ok i ∧ exec i s = .next u ∧ t = u.advance)
    ∨ (s.pins.rst = false ∧ s.pins.cmdValid = true
        ∧ (∃ e, decodeCommand s.pins.cmd = .error e) ∧ t = (s.reject .illegalCommand).advance)
    ∨ (s.pins.rst = false ∧ s.pins.cmdValid = false ∧ t = s.beginEdge.autonomous.advance) := by
  cases hr : s.pins.rst
  · cases hv : s.pins.cmdValid
    · rw [step_of_no_command hr hv] at h
      exact .inr (.inr (.inr ⟨rfl, rfl, (Host.Outcome.next.inj h).symm⟩))
    · cases hd : decodeCommand s.pins.cmd with
      | ok i =>
        rw [step, edgeAction_of_command hr hv hd] at h
        simp only [afterEdge] at h
        split at h
        · rename_i u hu
          exact .inr (.inl ⟨rfl, rfl, i, u, rfl, hu, (Host.Outcome.next.inj h).symm⟩)
        · cases h
        · cases h
      | error e =>
        rw [step, edgeAction_of_illegal hr hv hd] at h
        exact .inr (.inr (.inl ⟨rfl, rfl, ⟨e, rfl⟩, (Host.Outcome.next.inj h).symm⟩))
  · rw [step, edgeAction_of_rst hr] at h
    exact .inl ⟨rfl, (Host.Outcome.next.inj h).symm⟩

/-- The four commands a word can decode to. -/
theorem decodeCommand_cases {w : CmdWord} {i : Instr} (h : decodeCommand w = .ok i) :
    (i = .init (klenField w).toNat (vlenField w).toNat ∧ opField w = 1#4 ∧ rsvField w = 0#2)
    ∨ (i = .nop ∧ w = 0x0000#16) ∨ (i = .gen ∧ w = 0x0002#16) ∨ (i = .clear ∧ w = 0x0003#16) := by
  unfold decodeCommand at h
  split at h
  · rename_i hw
    exact .inl ⟨(Except.ok.inj h).symm, hw⟩
  · split at h
    · exact .inr (.inl ⟨(Except.ok.inj h).symm, ‹_›⟩)
    · split at h
      · exact .inr (.inr (.inl ⟨(Except.ok.inj h).symm, ‹_›⟩))
      · split at h
        · exact .inr (.inr (.inr ⟨(Except.ok.inj h).symm, ‹_›⟩))
        · cases h

end Sys2Proof.Machine
end

