-- ==== Sys2Proof/Laws/Edge.lean ====
section
/-! SUPPORT. Every edge of the core, told apart by what the host presents: six cases that cover all inputs and all
phases, each with the state after the edge. Later proofs about a step cite `edge_cases` and unfold nothing. -/

namespace Sys2Proof.Machine

open Sys2Proof

/-! ### Decoding a word read as a number -/

theorem opField_toNat (w : CmdWord) : (opField w).toNat = w.toNat % 16 := by simp [opField]

theorem rsvField_toNat (w : CmdWord) : (rsvField w).toNat = w.toNat / 2 ^ 14 := by
  have := w.isLt
  simp [rsvField, Nat.shiftRight_eq_div_pow]
  omega

theorem klenField_toNat (w : CmdWord) : (klenField w).toNat = w.toNat / 16 % 32 := by
  simp [klenField, Nat.shiftRight_eq_div_pow]

theorem vlenField_toNat (w : CmdWord) : (vlenField w).toNat = w.toNat / 512 % 32 := by
  simp [vlenField, Nat.shiftRight_eq_div_pow]

/-- R75 on the number of the word. -/
theorem decodeCommand_eq_numbers (w : CmdWord) :
    decodeCommand w =
      if w.toNat % 16 = 1 ∧ w.toNat / 2 ^ 14 = 0 then .ok (.init (w.toNat / 16 % 32) (w.toNat / 512 % 32))
      else if w.toNat = 0 then .ok .nop
      else if w.toNat = 2 then .ok .gen
      else if w.toNat = 3 then .ok .clear
      else .error (if 4 ≤ w.toNat % 16 then .reservedOp
        else if w.toNat % 16 = 1 then .reservedBits else .operandBits) := by
  simp only [decodeCommand, illegalGroup, ← BitVec.toNat_inj, BitVec.le_def, opField_toNat, rsvField_toNat,
    klenField_toNat, vlenField_toNat]
  simp

theorem eq_iff_toNat_eq {w : CmdWord} {n : Nat} (h : n < 2 ^ 16) : w = BitVec.ofNat 16 n ↔ w.toNat = n := by
  rw [← BitVec.toNat_inj, BitVec.toNat_ofNat, Nat.mod_eq_of_lt h]

/-! ### The step by the action of the edge -/

theorem step_of_rst {s : State} (h : s.pins.rst = true) : step s = .next s.resetRegisters.advance := by
  rw [step, edgeAction_of_rst h]
  rfl

theorem step_of_command {s : State} {i : Instr} (h : s.pins.rst = false) (hv : s.pins.cmdValid = true)
    (hd : decodeCommand s.pins.cmd = .ok i) : step s = afterEdge (exec i s) := by
  rw [step, edgeAction_of_command h hv hd]

theorem step_of_illegal {s : State} {e : DecodeError} (h : s.pins.rst = false) (hv : s.pins.cmdValid = true)
    (hd : decodeCommand s.pins.cmd = .error e) : step s = .next (s.reject .illegalCommand).advance := by
  rw [step, edgeAction_of_illegal h hv hd]
  rfl

/-- A rejected command in the edge: the error kind it earned, with the inputs it is not (60_exceptions.md R212). -/
abbrev RejectedEdge (s : State) (e : ErrorKind) : Prop :=
  commandError s.phase s.pins.cmd = e.code.toNat ∧ e.code ≠ 0#3 ∧ s.pins.cmd ≠ 0x0000#16 ∧ s.pins.cmd ≠ 0x2101#16
    ∧ s.pins.cmd ≠ 0x0003#16 ∧ (s.pins.cmd = 0x0002#16 → s.phase ≠ .generating)

/-- The state after an accepted GEN, before the next inputs come (R176). -/
abbrev State.afterGen (s : State) : State :=
  (((s.beginEdge.genRound.setZout s.genWord).setZvalid true).setObsv true).setErr .noError

/-- The five outcomes of an edge that presents a command word. -/
theorem command_edge_cases {s : State} (hr : s.pins.rst = false) (hv : s.pins.cmdValid = true) :
    (s.pins.cmd = 0x0000#16 ∧ step s = .next s.beginEdge.autonomous.advance)
    ∨ (s.pins.cmd = 0x2101#16 ∧ step s = .next s.beginEdge.startSession.advance)
    ∨ (s.pins.cmd = 0x0002#16 ∧ s.phase = .generating ∧ step s = .next s.afterGen.advance)
    ∨ (s.pins.cmd = 0x0003#16 ∧ step s = .next s.resetRegisters.advance)
    ∨ (∃ e, RejectedEdge s e ∧ step s = .next (s.reject e).advance) := by
  have hw := s.pins.cmd.isLt
  have hd := decodeCommand_eq_numbers s.pins.cmd
  have hne : ∀ n, n < 2 ^ 16 → s.pins.cmd.toNat ≠ n → s.pins.cmd ≠ BitVec.ofNat 16 n :=
    fun n hn h e => h ((eq_iff_toNat_eq hn).1 e)
  by_cases hil : illegalWord s.pins.cmd = true
  · have hno : ∀ w : CmdWord, illegalWord w = false → s.pins.cmd ≠ w := fun w hw' e => by simp [e, hw'] at hil
    refine .inr (.inr (.inr (.inr ⟨.illegalCommand, ⟨by simp [commandError, hil, ErrorKind.code], by decide,
      hno _ (by decide), hno _ (by decide), hno _ (by decide), fun e => absurd e (hno _ (by decide))⟩, ?_⟩)))
    simp only [illegalWord, decide_eq_true_eq] at hil
    rw [if_neg (by omega), if_neg (by omega), if_neg (by omega), if_neg (by omega)] at hd
    exact step_of_illegal hr hv hd
  · have hlegal := hil
    simp only [illegalWord, decide_eq_true_eq] at hlegal
    split_ifs at hd with h1 h0 h2 h3
    · have hs := step_of_command hr hv hd
      simp only [exec, execInit, keyLengthOk, ivLengthOk, Config.keyBytes, Config.ivBytes] at hs
      by_cases hk : s.pins.cmd.toNat / 16 % 32 = 16
      · by_cases hl : s.pins.cmd.toNat / 512 % 32 = 16
        · refine .inr (.inl ⟨(eq_iff_toNat_eq (by decide)).2 (by omega), ?_⟩)
          simpa [hk, hl, afterEdge] using hs
        · refine .inr (.inr (.inr (.inr ⟨.invalidIvLength, ⟨by simp [commandError, hil, ErrorKind.code, h1.1, hk, hl],
            by decide, hne 0 (by decide) (by omega), hne 0x2101 (by decide) (by omega), hne 3 (by decide) (by omega),
            fun e => absurd e (hne 2 (by decide) (by omega))⟩, ?_⟩)))
          simpa [hk, hl, afterEdge] using hs
      · refine .inr (.inr (.inr (.inr ⟨.invalidKeyLength, ⟨by simp [commandError, hil, ErrorKind.code, h1.1, hk],
          by decide, hne 0 (by decide) (by omega), hne 0x2101 (by decide) (by omega), hne 3 (by decide) (by omega),
          fun e => absurd e (hne 2 (by decide) (by omega))⟩, ?_⟩)))
        simpa [hk, afterEdge] using hs
    · exact .inl ⟨(eq_iff_toNat_eq (by decide)).2 h0, step_of_command hr hv hd⟩
    · have hs := step_of_command hr hv hd
      by_cases hp : s.phase = .generating
      · refine .inr (.inr (.inl ⟨(eq_iff_toNat_eq (by decide)).2 h2, hp, ?_⟩))
        rw [hs, exec, execGen, if_pos hp]
        rfl
      · refine .inr (.inr (.inr (.inr ⟨.useBeforeInitialize, ⟨by simp [commandError, hil, ErrorKind.code, h2, hp],
          by decide, hne 0 (by decide) (by omega), hne 0x2101 (by decide) (by omega), hne 3 (by decide) (by omega),
          fun _ => hp⟩, ?_⟩)))
        rw [hs, exec, execGen, if_neg hp]
        rfl
    · exact .inr (.inr (.inr (.inl ⟨(eq_iff_toNat_eq (by decide)).2 h3, step_of_command hr hv hd⟩)))
    all_goals exact absurd (by omega) hlegal

/-- Every edge: reset, CLEAR, a valid INIT, an accepted GEN, a rejected command, or no command (NOP included). -/
theorem edge_cases (s : State) :
    (s.pins.rst = true ∧ step s = .next s.resetRegisters.advance)
    ∨ (s.pins.isClear = true ∧ step s = .next s.resetRegisters.advance)
    ∨ (s.pins.isValidInit = true ∧ step s = .next s.beginEdge.startSession.advance)
    ∨ (s.pins.isGen = true ∧ s.phase = .generating ∧ step s = .next s.afterGen.advance)
    ∨ (s.pins.endsSession = false ∧ (s.pins.isGen = true → s.phase ≠ .generating) ∧ s.pins.rst = false
        ∧ s.pins.cmdValid = true ∧ ∃ e, RejectedEdge s e ∧ step s = .next (s.reject e).advance)
    ∨ (s.pins.endsSession = false ∧ s.pins.isGen = false ∧ s.pins.rst = false
        ∧ (s.pins.cmdValid = false ∨ s.pins.cmd = 0x0000#16)
        ∧ step s = .next s.beginEdge.autonomous.advance) := by
  cases hr : s.pins.rst with
  | true => exact .inl ⟨rfl, step_of_rst hr⟩
  | false =>
    cases hv : s.pins.cmdValid with
    | false =>
      refine .inr (.inr (.inr (.inr (.inr ⟨?_, ?_, rfl, .inl rfl, step_of_no_command hr hv⟩))))
      · simp [Pins.endsSession, Pins.isValidInit, Pins.isClear, hr, hv]
      · simp [Pins.isGen, hv]
    | true =>
      obtain ⟨h, hs⟩ | ⟨h, hs⟩ | ⟨h, hp, hs⟩ | ⟨h, hs⟩ | ⟨e, he, hs⟩ := command_edge_cases hr hv
      · refine .inr (.inr (.inr (.inr (.inr ⟨?_, ?_, rfl, .inr h, hs⟩))))
        · simp [Pins.endsSession, Pins.isValidInit, Pins.isClear, hr, hv, h]
        · simp [Pins.isGen, hv, h]
      · exact .inr (.inr (.inl ⟨by simp [Pins.isValidInit, hr, hv, h], hs⟩))
      · exact .inr (.inr (.inr (.inl ⟨by simp [Pins.isGen, hr, hv, h], hp, hs⟩)))
      · exact .inr (.inl ⟨by simp [Pins.isClear, hr, hv, h], hs⟩)
      · refine .inr (.inr (.inr (.inr (.inl ⟨?_, ?_, rfl, rfl, e, he, hs⟩))))
        · simp [Pins.endsSession, Pins.isValidInit, Pins.isClear, hr, hv, he.2.2.2.1, he.2.2.2.2.1]
        · simpa [Pins.isGen, hr, hv] using he.2.2.2.2.2

end Sys2Proof.Machine
end

