-- ==== Sys2Proof/Laws/PerInstr.lean ====
section
/-! SUPPORT. Statements about every instruction as syntax, one lemma per constructor. Family TableRow: the encoding of
a well-formed instruction carries the fixed bits its row of spec/opcode_table.json gives (match under mask). -/

namespace Sys2Proof.Laws.TableRow

open Sys2Proof

/-- The encoding of a well-formed instruction has the fixed bits of the instruction's own row of the table. -/
def Statement (i : Instr) : Prop :=
  i.wellFormed = true →
    match i with
    | .nop => ∃ w, encode i = .command w ∧ w &&& 0xFFFF#16 = 0x0000#16
    | .init _ _ => ∃ w, encode i = .command w ∧ w &&& 0xC00F#16 = 0x0001#16
    | .gen => ∃ w, encode i = .command w ∧ w &&& 0xFFFF#16 = 0x0002#16
    | .clear => ∃ w, encode i = .command w ∧ w &&& 0xFFFF#16 = 0x0003#16
    | .initRound => ∃ p, encode i = .auto p ∧ p &&& 0b11#2 = 0b01#2
    | .warmRound => ∃ p, encode i = .auto p ∧ p &&& 0b11#2 = 0b10#2
    | .genRound => ∃ p, encode i = .auto p ∧ p &&& 0b11#2 = 0b11#2

theorem nop : Statement .nop := fun _ => ⟨_, rfl, by decide⟩

theorem init (klen vlen : Nat) : Statement (.init klen vlen) := fun _ => ⟨_, rfl, by
  ext i hi
  simp only [initWord, BitVec.getElem_and, BitVec.getElem_append]
  have : i = 0 ∨ i = 1 ∨ i = 2 ∨ i = 3 ∨ i = 4 ∨ i = 5 ∨ i = 6 ∨ i = 7 ∨ i = 8 ∨ i = 9 ∨ i = 10 ∨ i = 11 ∨ i = 12
      ∨ i = 13 ∨ i = 14 ∨ i = 15 := by omega
  rcases this with h | h | h | h | h | h | h | h | h | h | h | h | h | h | h | h <;> subst h <;> simp⟩

theorem gen : Statement .gen := fun _ => ⟨_, rfl, by decide⟩

theorem clear : Statement .clear := fun _ => ⟨_, rfl, by decide⟩

theorem initRound : Statement .initRound := fun _ => ⟨_, rfl, by decide⟩

theorem warmRound : Statement .warmRound := fun _ => ⟨_, rfl, by decide⟩

theorem genRound : Statement .genRound := fun _ => ⟨_, rfl, by decide⟩

end Sys2Proof.Laws.TableRow
end

