-- ==== Sys2Proof/Tests/Slice0.lean ====
section
/-! SUPPORT. Tests on small states, one operation or one edge each, and a witness for the hypotheses of every statement.
Expected values are those of spec/95_test_vectors.md (its section is named at each group) or are read off a rule by hand. -/

namespace Sys2Proof.Tests

open Sys2Proof Sys2Proof.Machine

/-! ### Helpers: small states -/

/-- The reset state with a register file. -/
def withLfsr (l : Lfsr) : State := State.reset.setLfsr l

/-- The reset state whose next edge presents a command. -/
def presenting (cmd : CmdWord) : State := State.reset.setInputs (Pins.idle.present cmd) []

/-- An idle core in a phase with its round counter. -/
def inPhase (p : Phase) (rc : BitVec 6) : State := (State.reset.setPhase p).setRc rc

/-- A core in a phase, with its round counter, whose next edge presents a command; the register file is all ones
(every register 1), a legal session value. -/
def inPhasePresenting (p : Phase) (rc : BitVec 6) (cmd : CmdWord) : State :=
  ((inPhase p rc).setLfsr (Vector.replicate 16 1#31)).setInputs (Pins.idle.present cmd) []

/-- STATUS after one edge, as a number; 65536 if the step does not answer a next state. -/
def statusAfter (s : State) : Nat :=
  match step s with
  | .next t => (status t).toNat
  | .fault _ => 65536
  | .refused _ => 65536

/-- Some fields after one outcome; none where the outcome is not a next state. -/
def fieldAfter {α : Type} (f : State → α) (o : Host.Outcome State Fault Refusal) : Option α :=
  match o with
  | .next t => some (f t)
  | .fault _ => none
  | .refused _ => none

/-- The register file right after the load of the all-zero key and IV (95_test_vectors.md 2.3, T1). -/
def t1Loaded : Lfsr :=
  #v[0x0044D700, 0x0026BC00, 0x00626B00, 0x00135E00, 0x00578900, 0x0035E200, 0x00713500, 0x0009AF00,
    0x004D7800, 0x002F1300, 0x006BC400, 0x001AF100, 0x005E2600, 0x003C4D00, 0x00789A00, 0x0047AC00]

/-- T1's register file after 32 initialization rounds: the last 16 values of s[15] in the trace of section 3. -/
def t1Warm : Lfsr :=
  #v[0x7CE15B8B, 0x747CA0C4, 0x6259DD0B, 0x47A94C2B, 0x3A89C82E, 0x32B433FC, 0x231EA13F, 0x31711E42,
    0x4CCCE955, 0x3FB6071E, 0x161D3512, 0x7114B136, 0x5154D452, 0x78C69A74, 0x4F26BA6B, 0x3E1B8D6A]

/-- T1's register file after the warm-up round. -/
def t1Ready : Lfsr := shiftIn t1Warm 0x7F08E141

/-! ### WellFormed: each check refuses an ill-formed term -/

theorem test_wellFormed_refuses_wide_klen : (Instr.init 32 16).wellFormed = false := by decide
theorem test_wellFormed_refuses_wide_vlen : (Instr.init 16 32).wellFormed = false := by decide
theorem test_wellFormed_takes_widest_counts : (Instr.init 31 31).wellFormed = true := by decide

/-! ### Decoding: words written out bit by bit from 30_encoding.md R72, R73 and R79 -/

theorem test_decode_nop : decodeCommand 0b0000000000000000#16 = .ok .nop := by decide
/-- `00 VVVVV KKKKK 0001` with VLEN = 10000 and KLEN = 10000. -/
theorem test_decode_init : decodeCommand 0b0010000100000001#16 = .ok (.init 16 16) := by decide
/-- VLEN = 00001, KLEN = 00010: the fields are not swapped. -/
theorem test_decode_init_fields : decodeCommand 0b0000001000100001#16 = .ok (.init 2 1) := by decide
theorem test_decode_gen : decodeCommand 0b0000000000000010#16 = .ok .gen := by decide
theorem test_decode_clear : decodeCommand 0b0000000000000011#16 = .ok .clear := by decide
theorem test_decode_initRound : decodeRound 0b01#2 = .ok .initRound := by decide
theorem test_decode_warmRound : decodeRound 0b10#2 = .ok .warmRound := by decide
theorem test_decode_genRound : decodeRound 0b11#2 = .ok .genRound := by decide
theorem test_decode_rejects_reserved_op : decodeCommand 0b0000000000001111#16 = .error .reservedOp := by decide
theorem test_decode_rejects_rsv : decodeCommand 0b0110000100000001#16 = .error .reservedBits := by decide
theorem test_decode_rejects_gen_bit4 : decodeCommand 0b0000000000010010#16 = .error .operandBits := by decide
theorem test_decode_rejects_idle_phase : decodeRound 0b00#2 = .error .noRound := by decide

/-- A command row and an AUTO row with the same low bits stay apart by their width (log 5). -/
theorem test_tableWord_formats :
    decodeTableWord 16 2 = some .gen ∧ decodeTableWord 8 2 = some .warmRound ∧ decodeTableWord 8 4 = none
      ∧ decodeTableWord 16 65536 = none := by decide

/-- No word falls under two rows of the table: any two rows differ in a bit that both fix. -/
theorem test_rows_do_not_overlap :
    commandRows.Pairwise fun a b => a.pattern &&& (a.mask &&& b.mask) ≠ b.pattern &&& (a.mask &&& b.mask) := by decide

/-! ### Arithmetic (95_test_vectors.md 2.1, 2.2, 2.4) -/

theorem test_addMod_fold_lands_on_P : addMod 0x7FFFFFFE#31 1#31 = 0#31 := by decide
theorem test_addMod_carry_folded : addMod 0x5A5A5A5A#31 0x35353535#31 = 0x0F8F8F90#31 := by decide
theorem test_rotMulPow2_is_31_bit : rotMulPow2 0x12345678#31 17 = 0x2CF048D1#31 := by decide
theorem test_feedback_t1 : feedback t1Loaded = 0x451BFE1B#31 := by decide
theorem test_initModeUpdate_substitutes_zero : (initModeUpdate t1Loaded 0x3AE401E4#31)[15] = 0x7FFFFFFF#31 := by decide
theorem test_workModeUpdate_all_ones : (workModeUpdate (Vector.replicate 16 1#31))[15] = 0x00328101#31 := by decide

/-! ### Load, bit reorganizer, F (2.3, 2.5, 2.6, 2.7) -/

theorem test_load_t1 : load 0#128 0#128 = t1Loaded := by decide
/-- T3: register 1 takes key[1] = 4C and iv[1] = 31 about D[1] = 26BC. -/
theorem test_load_t3_register1 :
    (load 0x3D4C4BE96A82FDAEB58F641DB17B455B#128 0x84319AA8DE6915CA1F6BDA6BFBD8C766#128)[1] = 0x2626BC31#31 := by decide
theorem test_bitReorganize_t1 :
    bitReorganize t1Loaded = ⟨0x008F9A00#32, 0xF100005E#32, 0xAF00006B#32, 0x6B000089#32⟩ := by decide
theorem test_rotl32_takes_amount_mod_32 : rotl32 0x12345678#32 32 = 0x12345678#32 := by decide
theorem test_l1 : l1 0x12345678#32 = 0xAA4E9357#32 := by decide
theorem test_l2 : l2 0x12345678#32 = 0xA975B26C#32 := by decide
theorem test_sbox32_lanes : sbox32 0x01234567#32 = 0x7296EDFB#32 := by decide
theorem test_nonlinearF :
    nonlinearF 0x0F0F0F0F#32 0xF0F0F0F0#32 0x00FF00FF#32 0x12345678#32 0x9ABCDEF0#32
      = ⟨0xB7F83867#32, 0x36CA8930#32, 0x5DB5F9B7#32⟩ := by decide

/-! ### Instructions, one step each (2.8, 2.10, section 3) -/

/-- T1's first initialization round. -/
theorem test_initRound_first :
    fieldAfter (fun t => (t.lfsr[15], t.r1, t.r2, t.rc)) (exec .initRound (withLfsr t1Loaded))
      = some (0x4563CB1B#31, 0x67822141#32, 0x62A3A55F#32, 1#6) := by decide
/-- The round with RC = 31 before it moves PHASE to WARMING. -/
theorem test_initRound_last :
    fieldAfter (fun t => (t.phase, t.rc)) (exec .initRound (inPhase .initializing 31#6))
      = some (Phase.warming, 32#6) := by decide
theorem test_warmRound_t1 :
    fieldAfter (fun t => (t.lfsr[15], t.r1, t.r2, t.phase))
        (exec .warmRound ((withLfsr t1Warm).setFeedback 0x14CFD44C#32 0x8C6DE800#32))
      = some (0x7F08E141#31, 0x3512BF50#32, 0xA0920453#32, Phase.generating) := by decide
theorem test_genRound_t1 :
    fieldAfter (fun t => (t.lfsr[15], t.r1, t.r2))
        (exec .genRound ((withLfsr t1Ready).setFeedback 0x3512BF50#32 0xA0920453#32))
      = some (0x3D383D04#31, 0xC7EE7F13#32, 0x0C0FA817#32) := by decide
/-- The first keystream word of the all-zero session. -/
theorem test_gen_emits_z1 :
    fieldAfter (fun t => (t.zout, t.zvalid))
        (exec .gen (((withLfsr t1Ready).setFeedback 0x3512BF50#32 0xA0920453#32).setPhase .generating))
      = some (0x27BEDE74#32, true) := by decide
/-- A GEN in INITIALIZING is rejected and the round of the edge still runs. -/
theorem test_gen_rejected_keeps_round : statusAfter (inPhasePresenting .initializing 10#6 0x0002#16) = 0x132D := by
  decide
theorem test_init_starts_session : statusAfter (presenting 0x2101#16) = 0x1001 := by decide
/-- KLEN = VLEN = 17: the key error is the one reported; VLEN = 17 alone: the IV error. -/
theorem test_init_length_errors :
    statusAfter (presenting 0x2311#16) = 0x0100 ∧ statusAfter (presenting 0x2301#16) = 0x0200 := by decide
theorem test_clear_in_generating : statusAfter (inPhasePresenting .generating 32#6 0x0003#16) = 0x0000 := by decide
theorem test_nop_keeps_err : statusAfter ((presenting 0x0000#16).setErr .useBeforeInitialize) = 0x0300 := by decide
theorem test_nop_runs_warm_round : statusAfter (inPhasePresenting .warming 32#6 0x0000#16) = 0x0883 := by decide
theorem test_illegal_word : statusAfter (presenting 0x0005#16) = 0x0400 := by decide
theorem test_illegal_keeps_round : statusAfter (inPhasePresenting .initializing 10#6 0x0005#16) = 0x142D := by decide
theorem test_idle_edge_runs_last_init_round : statusAfter (inPhase .initializing 31#6) = 0x1082 := by decide
theorem test_reset_overrides_command :
    statusAfter ((inPhasePresenting .generating 32#6 0x0002#16).setInputs
      { Pins.idle.present 0x0002#16 with rst := true } []) = 0x0000 := by decide

/-- A table word of each format runs as the first instruction after reset. -/
theorem test_withFetchWord_runs :
    statusAfter (State.reset.withFetchWord 16 0x2101) = 0x1001
      ∧ statusAfter (State.reset.withFetchWord 8 1) = 0x1005
      ∧ statusAfter (State.reset.withFetchWord 8 2) = 0x0803
      ∧ statusAfter (State.reset.withFetchWord 8 3) = 0x2803 := by decide

/-- The inputs of a program come to the ports in its order; START is INIT and 33 idle edges. -/
theorem test_program_order :
    programPins [.line .reset, .wait 1, .genn 1]
      = [{ Pins.idle with rst := true }, Pins.idle, Pins.idle.present 0x0002#16]
      ∧ (programPins [.start 0#128 0#128]).length = 34 := by decide

/-! ### Witnesses: states and operands that meet the hypotheses of each statement -/

theorem witness_RotMulPow2MultipliesByPowerOfTwo : (0 < 8 ∧ 8 < 31) ∧ (0 < 1 ∧ 1 < 31) ∧ (0 < 30 ∧ 30 < 31) := by decide

theorem witness_UpdatesKeepLfsrInRange : ∀ i : Fin 16, t1Loaded[i] ≠ 0#31 := by decide

theorem witness_LoadPacksKeyConstantAndIv : 0 < 16 ∧ 15 < 16 := by decide

theorem witness_InitRoundCompletes :
    (inPhasePresenting .initializing 31#6 0x0002#16).phase = .initializing
      ∧ (inPhasePresenting .initializing 31#6 0x0002#16).pins.endsSession = false := by decide

theorem witness_WarmRoundCompletes :
    (inPhase .warming 32#6).phase = .warming ∧ (inPhase .warming 32#6).pins.endsSession = false := by decide

theorem witness_GenRoundCompletes :
    (inPhasePresenting .generating 32#6 0x0002#16).pins.isGen = true
      ∧ (inPhasePresenting .generating 32#6 0x0002#16).phase = .generating := by decide

theorem witness_NopCompletes :
    (State.reset.pins.rst = false ∧ State.reset.pins.cmdValid = false) ∧ State.reset.phase = .uninitialized ∧ (inPhase .initializing 0#6).phase = .initializing
      ∧ (inPhase .warming 32#6).phase = .warming ∧ (inPhase .generating 32#6).phase = .generating := by decide

/-- Each clause of the INIT statement at its boundary counts: 15 and 17 on either side of 16. -/
theorem witness_InitStartsSessionOrRejects :
    ((15 : Nat) ≠ 16 ∧ (17 : Nat) ≠ 16 ∧ (0 : Nat) ≠ 16 ∧ (31 : Nat) ≠ 16) ∧ ((16 : Nat) = 16 ∧ (15 : Nat) ≠ 16)
      ∧ ((16 : Nat) = 16 ∧ (16 : Nat) = 16) := by decide

theorem witness_GenEmitsWordOrRejects :
    (inPhase .generating 32#6).phase = .generating ∧ (inPhase .warming 32#6).phase ≠ .generating := by decide

theorem witness_StepRunsSelectedInstruction :
    ((presenting 0x2101#16).pins.rst = false ∧ (presenting 0x2101#16).pins.cmdValid = true
        ∧ decodeCommand (presenting 0x2101#16).pins.cmd = .ok (.init 16 16))
      ∧ (inPhase .initializing 0#6).pins.rst = false ∧ (inPhase .initializing 0#6).pins.cmdValid = false
      ∧ (inPhase .initializing 0#6).phase = .initializing ∧ (inPhase .warming 32#6).pins.cmdValid = false
      ∧ (inPhase .warming 32#6).phase = .warming ∧ (inPhase .generating 32#6).pins.cmdValid = false
      ∧ (inPhase .generating 32#6).phase = .generating := by decide

theorem witness_AdvancePresentsNextInputs :
    State.reset.pending = [] ∧ (State.reset.setInputs Pins.idle [Pins.idle]).pending = [Pins.idle] := by decide

/-- One word of each ILLEGAL group. -/
theorem witness_IllegalWordSetsErrAndKeepsRound :
    (presenting 0x0004#16).pins.rst = false ∧ (presenting 0x0004#16).pins.cmdValid = true
      ∧ illegalWord (presenting 0x0004#16).pins.cmd = true ∧ illegalWord (presenting 0x4101#16).pins.cmd = true
      ∧ illegalWord (presenting 0x0010#16).pins.cmd = true := by decide

/-- The reset statements: ResetEdgeWritesResetColumn, ResetIgnoresOtherInputs, ResetEdgeEstablishesInvariant. -/
theorem witness_reset_statements :
    (State.reset.setInputs Line.reset.pins []).pins.rst = true
      ∧ ((inPhase .generating 32#6).setInputs { Pins.idle.present 0x0002#16 with rst := true } []).pins.rst = true
      ∧ (State.reset.setInputs Line.reset.pins []).pending
        = ((inPhase .generating 32#6).setInputs { Pins.idle.present 0x0002#16 with rst := true } []).pending := by decide

/-- One rejected command of each kind. -/
theorem witness_RejectedCommandChangesOnlyErr :
    (presenting 0x0004#16).pins.rst = false ∧ (presenting 0x0004#16).pins.cmdValid = true
      ∧ commandError (presenting 0x0004#16).phase 0x0004#16 = 4
      ∧ commandError (presenting 0x20F1#16).phase 0x20F1#16 = 1
      ∧ commandError (presenting 0x1F01#16).phase 0x1F01#16 = 2
      ∧ commandError (presenting 0x0002#16).phase 0x0002#16 = 3 := by decide

theorem witness_ErrReportsLastCommand :
    (State.reset.setInputs Line.reset.pins []).pins.rst = true
      ∧ ((presenting 0x0000#16).pins.rst = false ∧ (presenting 0x0000#16).pins.cmd = 0x0000#16)
      ∧ (State.reset.pins.rst = false ∧ State.reset.pins.cmdValid = false)
      ∧ ((presenting 0x0003#16).pins.cmdValid = true ∧ (presenting 0x0003#16).pins.cmd ≠ 0x0000#16) := by decide

/-- Each clause of the phase list from a state that meets the invariant, at the values of RC where the clauses meet. -/
theorem witness_PhaseTransitionsAreComplete_initializing :
    (inPhasePresenting .initializing 31#6 0x0002#16).Inv ∧ (inPhasePresenting .initializing 30#6 0x0002#16).Inv
      ∧ (inPhasePresenting .initializing 31#6 0x0002#16).pins.endsSession = false :=
  ⟨by decide, by decide, by decide⟩

theorem witness_PhaseTransitionsAreComplete_warming :
    (inPhasePresenting .warming 32#6 0x0000#16).Inv
      ∧ (inPhasePresenting .warming 32#6 0x0000#16).pins.endsSession = false := by decide

theorem witness_PhaseTransitionsAreComplete_generating :
    (inPhasePresenting .generating 32#6 0x0002#16).Inv
      ∧ (inPhasePresenting .generating 32#6 0x0002#16).pins.endsSession = false := by decide

theorem witness_PhaseTransitionsAreComplete_uninitialized :
    State.reset.Inv ∧ State.reset.pins.endsSession = false := by decide

theorem witness_PhaseTransitionsAreComplete_session_end :
    (inPhasePresenting .generating 32#6 0x0003#16).Inv ∧ (inPhasePresenting .generating 32#6 0x2101#16).Inv
      ∧ (inPhasePresenting .generating 32#6 0x0003#16).pins.isClear = true
      ∧ (inPhasePresenting .generating 32#6 0x2101#16).pins.isValidInit = true :=
  ⟨by decide, by decide, by decide, by decide⟩

theorem witness_IdlePhasesKeepSession :
    (State.reset.phase = .uninitialized ∧ State.reset.pins.endsSession = false)
      ∧ ((inPhasePresenting .generating 32#6 0x0007#16).phase = .generating
        ∧ (inPhasePresenting .generating 32#6 0x0007#16).pins.endsSession = false
        ∧ (inPhasePresenting .generating 32#6 0x0007#16).pins.isGen = false) := by decide

theorem witness_ZoutHoldsLastWord :
    (inPhasePresenting .generating 32#6 0x2101#16).pins.endsSession = true
      ∧ ((inPhasePresenting .generating 32#6 0x0002#16).pins.isGen = true
        ∧ (inPhasePresenting .generating 32#6 0x0002#16).phase = .generating)
      ∧ ((inPhasePresenting .warming 32#6 0x0002#16).pins.endsSession = false
        ∧ ¬ ((inPhasePresenting .warming 32#6 0x0002#16).pins.isGen = true
          ∧ (inPhasePresenting .warming 32#6 0x0002#16).phase = .generating)) := by decide

/-- NoCommandActsAsNop. -/
theorem witness_NoCommandActsAsNop :
    (inPhase .initializing 0#6).pins.rst = false ∧ (inPhase .initializing 0#6).pins.cmdValid = false := by decide

theorem witness_KeyAndIvReadOnlyByValidInit :
    (presenting 0x20F1#16).pins.isValidInit = false ∧ State.reset.pins.isValidInit = false := by decide

theorem witness_ValidInitForgetsOldSession :
    (presenting 0x2101#16).pins.isValidInit = true
      ∧ (inPhasePresenting .generating 32#6 0x2101#16).pins.isValidInit = true
      ∧ (presenting 0x2101#16).pins.keyIn = (inPhasePresenting .generating 32#6 0x2101#16).pins.keyIn
      ∧ (presenting 0x2101#16).pins.ivIn = (inPhasePresenting .generating 32#6 0x2101#16).pins.ivIn
      ∧ (presenting 0x2101#16).pending = (inPhasePresenting .generating 32#6 0x2101#16).pending := by decide

/-- DecodeAndEncodeAgree: well-formed terms and decodable encodings of both formats. -/
theorem witness_DecodeAndEncodeAgree :
    (Instr.init 31 0).wellFormed = true ∧ Instr.genRound.wellFormed = true
      ∧ decode (.command 0x3E01#16) = .ok (.init 0 31) ∧ decode (.auto 0b11#2) = .ok .genRound := by decide

theorem witness_LegalWordsAreExactlyTheTableRows :
    illegalWord 0xFFFF#16 = true ∧ illegalWord 0x4101#16 = true ∧ illegalWord 0x0012#16 = true
      ∧ illegalWord 0x3FF1#16 = false := by decide

theorem witness_FetchedTableWordRunsNext :
    (decodeTableWord 16 0x0001 = some (.init 0 0) ∧ commandBits ≤ 16)
      ∧ (decodeTableWord 8 1 = some .initRound ∧ 8 < commandBits) ∧ decodeTableWord 8 2 = some .warmRound
      ∧ decodeTableWord 8 3 = some .genRound := by decide

theorem witness_AssemblerLinesPresentTheirInputs : 31 < 32 ∧ 0 < 32 := by decide

/-- ObserverPortsShowRegisters: the first and the last register. -/
theorem witness_ObserverPortsShowRegisters : 0 < 16 ∧ 15 < 16 := by decide

/-- StepKeepsInvariant: a session state meets the invariant, and its step answers a next state. -/
theorem witness_StepKeepsInvariant :
    (inPhasePresenting .generating 32#6 0x0002#16).Inv
      ∧ statusAfter (inPhasePresenting .generating 32#6 0x0002#16) = 0x2883 := by decide

/-- An INIT at edge 0 and GENs on all edges after it, as many as wanted: no later edge ends the session. -/
def initThenGens (n : Nat) : State :=
  State.reset.setInputs (Pins.idle.present 0x2101#16) (List.replicate n (Pins.idle.present 0x0002#16))

theorem witness_InitializationTakesThirtyThreeEdges :
    (initThenGens 34).pins.isValidInit = true
      ∧ (∀ k < 34, 1 ≤ k → ((initThenGens 34).edgePins k).endsSession = false)
      ∧ ((initThenGens 34).edgePins 1).isGen = true ∧ ((initThenGens 34).edgePins 34).isGen = true := by decide

theorem witness_SessionEmitsCipherKeystream :
    (initThenGens 36).pins.isValidInit = true
      ∧ (∀ k < 34 + 3, 1 ≤ k → ((initThenGens 36).edgePins k).endsSession = false)
      ∧ (initThenGens 36).gensPresented 34 3 = 3 := by decide

/-- Two hosts: GEN, GEN on two edges, and GEN, idle, GEN on three. -/
theorem witness_WordsDependOnlyOnNumberOfGens :
    let g := Pins.idle.present 0x0002#16
    let s := (inPhase .generating 32#6).setInputs g [g]
    let t := (inPhase .generating 32#6).setInputs g [Pins.idle, g]
    s.phase = .generating ∧ t.phase = .generating ∧ s.cipher = t.cipher
      ∧ (∀ k < 2, (s.edgePins k).endsSession = false) ∧ (∀ k < 3, (t.edgePins k).endsSession = false)
      ∧ s.gensPresented 0 2 = t.gensPresented 0 3 := by decide

end Sys2Proof.Tests
end

section
/-! SUPPORT. Facts about the state that the statements on 10_state.md rest on: words joined from parts and read as
numbers, the word of a GEN, the registers that a shift and a load leave, and the kinds of an edge. -/

namespace Sys2Proof.Machine

open Sys2Proof

/-! ### Words joined from parts -/

/-- `x ‖ y` read as a number. -/
theorem append_toNat {m n : Nat} (x : BitVec m) (y : BitVec n) : (x ++ y).toNat = x.toNat * 2 ^ n + y.toNat := by
  rw [BitVec.toNat_append, ← Nat.shiftLeft_add_eq_or_of_lt y.isLt, Nat.shiftLeft_eq]

theorem append_eq_joinHalves (a b : BitVec 16) : a ++ b = joinHalves a.toNat b.toNat := by
  have ha := a.isLt
  have hb := b.isLt
  apply BitVec.eq_of_toNat_eq
  rw [append_toNat, joinHalves, BitVec.toNat_ofNat, Nat.mod_eq_of_lt (by omega)]

/-- R130: x[30:15] is x / 2^15. -/
theorem highHalf_toNat (x : Word31) : (highHalf x).toNat = x.toNat / 2 ^ 15 := by
  have := x.isLt
  simp [highHalf, Nat.shiftRight_eq_div_pow]
  omega

/-- R130: x[15:0] is x mod 2^16. -/
theorem lowHalf_toNat (x : Word31) : (lowHalf x).toNat = x.toNat % 2 ^ 16 := by
  simp [lowHalf]

/-! ### The word of a GEN (43_session_controller.md R181) -/

theorem bitReorganize_x0 (l : Lfsr) : (bitReorganize l).x0 = cipherX0 l := by
  simp only [bitReorganize, cipherX0, append_eq_joinHalves, highHalf_toNat, lowHalf_toNat]

theorem bitReorganize_x3 (l : Lfsr) : (bitReorganize l).x3 = cipherX3 l := by
  simp only [bitReorganize, cipherX3, append_eq_joinHalves, highHalf_toNat, lowHalf_toNat]

/-- 42_nonlinear_f.md R144, step 1. -/
theorem nonlinearF_w (x0 x1 x2 r1 r2 : Word32) : (nonlinearF x0 x1 x2 r1 r2).w = cipherW x0 r1 r2 :=
  BitVec.add_def _ _

/-- The word of the model's round is the word of the cipher. -/
theorem State.genWord_eq_cipher_word (s : State) : s.genWord = s.cipher.word := by
  simp only [State.genWord, State.roundF, nonlinearF_w, bitReorganize_x0, bitReorganize_x3, State.cipher,
    Cipher.word, Cipher.w]

/-! ### No register of a session is 0 (10_state.md R21) -/

/-- R109: a shift keeps a file without a 0, if what enters is not 0. -/
theorem shiftIn_ne_zero {l : Lfsr} {f : Word31} (hl : ∀ i : Fin 16, l[i] ≠ 0#31) (hf : f ≠ 0#31) (i : Fin 16) :
    (shiftIn l f)[i] ≠ 0#31 := by
  by_cases hi : i.val < 15
  · simpa [hi] using hl ⟨i.val + 1, by omega⟩
  · obtain rfl : i = 15 := by omega
    simpa using hf

theorem initModeUpdate_ne_zero {l : Lfsr} (hl : ∀ i : Fin 16, l[i] ≠ 0#31) (u : Word31) (i : Fin 16) :
    (initModeUpdate l u)[i] ≠ 0#31 :=
  shiftIn_ne_zero hl (substituteZero_ne_zero _) i

theorem workModeUpdate_ne_zero {l : Lfsr} (hl : ∀ i : Fin 16, l[i] ≠ 0#31) (i : Fin 16) :
    (workModeUpdate l)[i] ≠ 0#31 :=
  shiftIn_ne_zero hl (substituteZero_ne_zero _) i

/-- No constant of 10_state.md R29 has its low 15 bits 0. -/
theorem dRead_low_ne_zero : ∀ i : Fin 16, (dRead i.val).extractLsb' 0 15 ≠ 0#15 := by decide

/-- 40_lfsr.md R101: bits 8 .. 22 of register i are those of D[i], so the load leaves no 0. -/
theorem load_ne_zero (key iv : BitVec 128) (i : Fin 16) : (load key iv)[i] ≠ 0#31 := by
  intro h
  have hd := dRead_low_ne_zero i
  have hn := congrArg BitVec.toNat h
  simp only [Fin.getElem_fin, load_getElem, loadWord, append_toNat] at hn
  apply hd
  apply BitVec.eq_of_toNat_eq
  simp at hn ⊢
  omega

/-! ### The kinds of an edge (43_session_controller.md R172) -/

/-- A GEN does not end the session: the three words of R188 and GEN's are different. -/
theorem Pins.endsSession_of_isGen {p : Pins} (h : p.isGen = true) : p.endsSession = false := by
  simp only [Pins.isGen, Bool.and_eq_true, Bool.not_eq_true', beq_iff_eq] at h
  obtain ⟨⟨hrst, -⟩, hcmd⟩ := h
  simp [Pins.endsSession, Pins.isValidInit, Pins.isClear, hrst, hcmd]

theorem Pins.isGen_of_endsSession {p : Pins} (h : p.endsSession = true) : p.isGen = false := by
  by_contra hg
  simp [Pins.endsSession_of_isGen (eq_true_of_ne_false hg)] at h

/-- What an edge that ends the session leaves: Reset() (R241), or a new session (R175). -/
def State.DropsSession (s u : State) : Prop := u = s.resetRegisters ∨ u = s.beginEdge.startSession

/-- What an edge that neither ends the session nor has a GEN succeed starts its autonomous round from: the defaults of
R171, and ERR if a command was rejected (60_exceptions.md R212). -/
def State.BeginsRound (s u : State) : Prop := u = s.beginEdge ∨ ∃ e, u = s.beginEdge.raise e

/-- Every edge as what it does to the session: it ends it, or a GEN succeeds in it, or it goes on with the autonomous
round, if PHASE has one. -/
theorem edge_kinds (s : State) :
    (s.pins.endsSession = true ∧ ∃ u, s.DropsSession u ∧ step s = .next u.advance)
    ∨ ((s.pins.isGen = true ∧ s.phase = .generating) ∧ step s = .next s.afterGen.advance)
    ∨ (s.pins.endsSession = false ∧ ¬ (s.pins.isGen = true ∧ s.phase = .generating)
      ∧ ∃ u, s.BeginsRound u ∧ step s = .next u.autonomous.advance) := by
  obtain ⟨hrst, h⟩ | ⟨hclear, h⟩ | ⟨hinit, h⟩ | ⟨hgen, hphase, h⟩ | ⟨hend, hgen, -, -, e, -, h⟩
    | ⟨hend, hgen, -, -, h⟩ := edge_cases s
  · exact .inl ⟨by simp [Pins.endsSession, hrst], _, .inl rfl, h⟩
  · exact .inl ⟨by simp [Pins.endsSession, hclear], _, .inl rfl, h⟩
  · exact .inl ⟨by simp [Pins.endsSession, hinit], _, .inr rfl, h⟩
  · exact .inr (.inl ⟨⟨hgen, hphase⟩, h⟩)
  · exact .inr (.inr ⟨hend, fun hg => hgen hg.1 hg.2, _, .inr ⟨e, rfl⟩, h⟩)
  · exact .inr (.inr ⟨hend, by simp [hgen], _, .inl rfl, h⟩)

section Fields

variable {s u : State}

theorem State.DropsSession.zout_eq (h : s.DropsSession u) : u.zout = 0#32 := by
  obtain rfl | rfl := h <;> simp

theorem State.DropsSession.zvalid_eq (h : s.DropsSession u) : u.zvalid = false := by
  obtain rfl | rfl := h <;> simp

theorem State.DropsSession.obsv_eq (h : s.DropsSession u) : u.obsv = false := by
  obtain rfl | rfl := h <;> simp

theorem State.BeginsRound.phase_eq (h : s.BeginsRound u) : u.phase = s.phase := by
  obtain rfl | ⟨e, rfl⟩ := h <;> simp

theorem State.BeginsRound.zout_eq (h : s.BeginsRound u) : u.zout = s.zout := by
  obtain rfl | ⟨e, rfl⟩ := h <;> simp

theorem State.BeginsRound.zvalid_eq (h : s.BeginsRound u) : u.zvalid = false := by
  obtain rfl | ⟨e, rfl⟩ := h <;> simp

theorem State.BeginsRound.obsv_eq (h : s.BeginsRound u) : u.obsv = false := by
  obtain rfl | ⟨e, rfl⟩ := h <;> simp

end Fields

/-- 10_state.md R32: the autonomous round sets OBSV where PHASE has a round, and otherwise keeps it. -/
theorem State.autonomous_obsv_iff (s : State) :
    s.autonomous.obsv = true ↔ s.phase = .initializing ∨ s.phase = .warming ∨ s.obsv = true := by
  obtain ⟨hp, h⟩ | ⟨hp, h⟩ | ⟨hp | hp, h⟩ := s.autonomous_cases <;> simp [h, hp]

/-! ### The invariant, operation by operation -/

/-- The reset column of R37 meets the invariant. -/
theorem State.RegistersReset.inv {s : State} (h : s.RegistersReset) : s.Inv := by
  obtain ⟨hlfsr, hr1, hr2, hphase, hrc, herr, hzout, hzvalid, hobsv⟩ := h
  refine ⟨⟨by simp [hphase], fun _ => ⟨hlfsr, hr1, hr2⟩⟩, ?_, by simp [State.ErrInv, herr], ?_⟩
  · simp [State.CounterInv, hphase, hrc]
  · simp [State.OutputInv, hzout, hzvalid, hobsv]

/-- R241: Reset() writes the reset column. -/
theorem State.resetRegisters_registersReset (s : State) : s.resetRegisters.RegistersReset := by
  simp [State.RegistersReset]

/-- 60_exceptions.md R210: the highest code is 4. -/
theorem ErrorKind.code_le_four (e : ErrorKind) : e.code.toNat ≤ 4 := by
  cases e <;> decide

namespace State.Inv

variable {s : State}

/-- The coming of the next inputs changes no register. -/
theorem advance (h : s.Inv) : s.advance.Inv := by
  simpa [State.Inv, State.LfsrInv, State.CounterInv, State.ErrInv, State.OutputInv] using h

theorem beginEdge (h : s.Inv) : s.beginEdge.Inv := by
  obtain ⟨hlfsr, hcounter, herr, -, hzout, -⟩ := h
  exact ⟨hlfsr, hcounter, herr, by simp, hzout, by simp⟩

/-- Raising an error keeps the invariant where ZVALID is 0, as it is after the defaults of an edge. -/
theorem raise (h : s.Inv) (hz : s.zvalid = false) (e : ErrorKind) : (s.raise e).Inv := by
  obtain ⟨hlfsr, hcounter, -, -, hzout, hobsv⟩ := h
  exact ⟨hlfsr, hcounter, e.code_le_four, by simp [hz], hzout, hobsv⟩

theorem beginsRound {u : State} (h : s.Inv) (hu : s.BeginsRound u) : u.Inv := by
  obtain rfl | ⟨e, rfl⟩ := hu
  · exact h.beginEdge
  · exact h.beginEdge.raise rfl e

/-- R31: outside GENERATING no word is marked valid. -/
theorem zvalid_eq_false (h : s.Inv) (hp : s.phase ≠ .generating) : s.zvalid = false := by
  obtain ⟨-, -, -, hzvalid, -, -⟩ := h
  exact eq_false_of_ne_true fun hz => hp (hzvalid hz).1

/-- In a session the clauses on UNINITIALIZED say nothing. -/
theorem of_session (hp : s.phase ≠ .uninitialized) (hlfsr : ∀ i : Fin 16, s.lfsr[i] ≠ 0#31) (hcounter : s.CounterInv)
    (herr : s.ErrInv) (hzvalid : s.zvalid = true → s.phase = .generating ∧ s.obsv = true ∧ s.err = 0#3)
    (hzout : s.phase ≠ .generating → s.zout = 0#32) : s.Inv :=
  ⟨⟨fun _ => hlfsr, fun h => absurd h hp⟩, hcounter, herr, hzvalid, hzout, fun _ => hp⟩

/-- R175: whatever the old state, a new session begins with a loaded file, RC = 0 and no error. -/
theorem startSession (s : State) : s.beginEdge.startSession.Inv :=
  of_session (by simp) (by simpa using load_ne_zero _ _) (by simp [State.CounterInv]) (by simp [State.ErrInv])
    (by simp) (by simp)

theorem dropsSession {u : State} (hu : s.DropsSession u) : u.Inv := by
  obtain rfl | rfl := hu
  · exact s.resetRegisters_registersReset.inv
  · exact startSession s

/-- R179: RC counts to 31 in INITIALIZING, and the round that makes it 32 moves PHASE to WARMING. -/
theorem initRound_counterInv (hp : s.phase = .initializing) (hrc : s.rc.toNat ≤ 31) : s.initRound.CounterInv := by
  rw [State.CounterInv, State.initRound_phase, State.initRound_rc]
  by_cases hlast : s.rc.toNat + 1 = Config.initRounds
  · have : s.rc = 31#6 := BitVec.eq_of_toNat_eq (Nat.succ.inj hlast)
    simp [this, Config.initRounds]
  · have : s.rc.toNat ≠ 31 := fun h => hlast (congrArg (· + 1) h)
    simp [hlast, hp]
    omega

theorem initRound (h : s.Inv) (hp : s.phase = .initializing) : (s.initRound.setObsv true).Inv := by
  have hzvalid := h.zvalid_eq_false (by simp [hp])
  obtain ⟨⟨hlfsr, -⟩, ⟨-, hrc, -⟩, herr, -, hzout, -⟩ := h
  have hlfsr := initModeUpdate_ne_zero (hlfsr (by simp [hp])) (s.roundF.w.extractLsb' 1 31)
  refine of_session ?_ (by simpa using hlfsr) (initRound_counterInv hp (hrc hp)) (by simpa using herr)
    (by simp [hzvalid]) (by simp [hzout, hp])
  rw [State.setObsv_phase, State.initRound_phase]
  split <;> simp [hp]

/-- R180: the warm-up round moves PHASE to GENERATING with RC = 32. -/
theorem warmRound (h : s.Inv) (hp : s.phase = .warming) : (s.warmRound.setObsv true).Inv := by
  have hzvalid := h.zvalid_eq_false (by simp [hp])
  obtain ⟨⟨hlfsr, -⟩, ⟨-, -, hrc⟩, herr, -⟩ := h
  have hlfsr := workModeUpdate_ne_zero (hlfsr (by simp [hp]))
  exact of_session (by simp) (by simpa using hlfsr) (by simp [State.CounterInv, hrc (.inl hp)]) herr
    (by simp [hzvalid]) (by simp)

theorem autonomous (h : s.Inv) : s.autonomous.Inv := by
  obtain ⟨hp, ha⟩ | ⟨hp, ha⟩ | ⟨-, ha⟩ := s.autonomous_cases <;> rw [ha]
  · exact h.initRound hp
  · exact h.warmRound hp
  · exact h

/-- R176: an accepted GEN leaves PHASE and RC, writes NONE to ERR and marks its word and its round. -/
theorem afterGen (h : s.Inv) (hp : s.phase = .generating) : s.afterGen.Inv := by
  obtain ⟨⟨hlfsr, -⟩, ⟨-, -, hrc⟩, -⟩ := h
  have hlfsr := workModeUpdate_ne_zero (hlfsr (by simp [hp]))
  exact of_session (by simp [hp]) (by simpa using hlfsr) (by simp [State.CounterInv, hp, hrc (.inr hp)])
    (by simp [State.ErrInv, ErrorKind.code]) (by simp [hp, ErrorKind.code]) (by simp [hp])

/-- One edge keeps the invariant, whatever it presents. -/
theorem next {t : State} (h : s.Inv) (hs : step s = .next t) : t.Inv := by
  obtain ⟨-, u, hu, he⟩ | ⟨⟨-, hp⟩, he⟩ | ⟨-, -, u, hu, he⟩ := edge_kinds s <;>
    obtain rfl := Host.Outcome.next.inj (he.symm.trans hs)
  · exact (dropsSession hu).advance
  · exact (h.afterGen hp).advance
  · exact (h.beginsRound hu).autonomous.advance

end State.Inv

/-! ### STATUS (10_state.md R33) -/

theorem Phase.code_toNat (p : Phase) : p.code.toNat = phaseNumber p := by
  cases p <;> rfl

/-- A status bit, read as a number. -/
theorem ofBool_toNat (b : Bool) : (BitVec.ofBool b).toNat = if b then 1 else 0 := by
  cases b <;> rfl

/-- R31: STATUS[13] is ZVALID. -/
theorem status_getLsbD_zvalid (s : State) : (status s).getLsbD 13 = s.zvalid := by
  rw [status]
  simp only [BitVec.getLsbD_append]
  simp

end Sys2Proof.Machine

open Sys2Proof Sys2Proof.Machine

/-- Settles O46: each kind of edge keeps the invariant. -/
theorem stepKeepsInvariant : Obligations.StepKeepsInvariant :=
  fun _ _ h hs => h.next hs

/-- Settles O30, by the kinds of an edge: only an accepted GEN sets ZVALID. -/
theorem zvalidMarksSuccessfulGen : Obligations.ZvalidMarksSuccessfulGen := by
  intro s
  obtain ⟨hend, u, hu, h⟩ | ⟨hgen, h⟩ | ⟨-, hgen, u, hu, h⟩ := edge_kinds s
  · exact ⟨_, h, by simp [Pins.isGen_of_endsSession hend, hu.zvalid_eq], rfl, status_getLsbD_zvalid _,
      by simp [outputs, outputsOf, hu.zvalid_eq]⟩
  · exact ⟨_, h, by simp [hgen], rfl, status_getLsbD_zvalid _,
      by simp [outputs, outputsOf, s.genWord_eq_cipher_word]⟩
  · exact ⟨_, h, by simp [hgen, hu.zvalid_eq], rfl, status_getLsbD_zvalid _,
      by simp [outputs, outputsOf, hu.zvalid_eq]⟩

/-- Settles O31, by the kinds of an edge: a round is a GEN's or the autonomous one. -/
theorem obsvMarksRound : Obligations.ObsvMarksRound := by
  intro s
  obtain ⟨hend, u, hu, h⟩ | ⟨⟨hgen, hp⟩, h⟩ | ⟨hend, hgen, u, hu, h⟩ := edge_kinds s
  · exact ⟨_, h, by simp [hend, hu.obsv_eq], _, rfl, rfl⟩
  · exact ⟨_, h, by simp [Pins.endsSession_of_isGen hgen, hgen, hp], _, rfl, rfl⟩
  · refine ⟨_, h, ?_, _, rfl, rfl⟩
    rw [State.advance_obsv, u.autonomous_obsv_iff, hu.phase_eq, hu.obsv_eq]
    simp [hend, and_comm.not.mp hgen]

/-- Settles O32, by the kinds of an edge: the autonomous round never writes ZOUT. -/
theorem zoutHoldsLastWord : Obligations.ZoutHoldsLastWord := by
  intro s
  obtain ⟨hend, u, hu, h⟩ | ⟨hgen, h⟩ | ⟨hend, hgen, u, hu, h⟩ := edge_kinds s
  · exact ⟨_, h, by simp [hu.zout_eq], by simp [Pins.isGen_of_endsSession hend], by simp [hend], rfl⟩
  · exact ⟨_, h, by simp [Pins.endsSession_of_isGen hgen.1], by simp [s.genWord_eq_cipher_word],
      fun _ hn => absurd hgen hn, rfl⟩
  · exact ⟨_, h, by simp [hend], fun hg hp => absurd ⟨hg, hp⟩ hgen, by simp [hu.zout_eq], rfl⟩

/-- Settles O42, by reading the seven fields joined in STATUS as numbers. -/
theorem statusWordLayout : Obligations.StatusWordLayout := by
  refine fun s => ⟨?_, rfl⟩
  simp only [status, append_toNat, Phase.code_toNat, ofBool_toNat, BitVec.toNat_ofNat, ready, busy,
    decide_eq_true_eq]
  omega

/-- Settles O44: the reset state is what Reset() makes of itself. -/
theorem invariantHoldsAtReset : Obligations.InvariantHoldsAtReset :=
  State.reset.resetRegisters_registersReset.inv
end

section
/-! SUPPORT. Facts about the two formats of the opcode table that the statements on 30_encoding.md rest on: a command
word as the number its fields make, the encoder against both decoders, the rows that cover a word, and what the host
presents for a table word or a program. -/

namespace Sys2Proof.Machine

open Sys2Proof

/-! ### Command words as numbers (30_encoding.md R72, R75, R76) -/

/-- R72: the fields of INIT's word, as places of a number. -/
theorem initWord_toNat (klen vlen : Nat) : (initWord klen vlen).toNat = 512 * (vlen % 32) + 16 * (klen % 32) + 1 := by
  simp only [initWord, append_toNat, BitVec.toNat_ofNat]
  omega

/-- R75: INIT's word decodes to its two counts, at every value the 5-bit fields admit. -/
theorem decodeCommand_initWord {klen vlen : Nat} (hk : klen < 32) (hv : vlen < 32) :
    decodeCommand (initWord klen vlen) = .ok (.init klen vlen) := by
  have hw := initWord_toNat klen vlen
  rw [decodeCommand_eq_numbers, if_pos (by omega)]
  congr 2 <;> omega

/-- A word with OP = 1 and RSV = 0 is INIT's word for its own two fields. -/
theorem initWord_of_fields {w : CmdWord} (hop : opField w = 1#4) (hrsv : rsvField w = 0#2) :
    initWord (klenField w).toNat (vlenField w).toNat = w := by
  have hop : w.toNat % 16 = 1 := by rw [← opField_toNat, hop]; rfl
  have hrsv : w.toNat / 2 ^ 14 = 0 := by rw [← rsvField_toNat, hrsv]; rfl
  apply BitVec.eq_of_toNat_eq
  rw [initWord_toNat, klenField_toNat, vlenField_toNat]
  omega

/-- R76: an ILLEGAL word is rejected under its group's name. -/
theorem decodeCommand_of_illegalWord {w : CmdWord} (h : illegalWord w = true) :
    decodeCommand w = .error
      (if 4 ≤ w.toNat % 16 then .reservedOp else if w.toNat % 16 = 1 then .reservedBits else .operandBits) := by
  simp only [illegalWord, decide_eq_true_eq] at h
  rw [decodeCommand_eq_numbers, if_neg (by omega), if_neg (by omega), if_neg (by omega), if_neg (by omega)]

/-- R75: a word in none of the ILLEGAL groups decodes. -/
theorem exists_decodeCommand_of_not_illegalWord {w : CmdWord} (h : illegalWord w = false) :
    ∃ i, decodeCommand w = .ok i := by
  simp only [illegalWord, decide_eq_false_iff_not] at h
  rw [decodeCommand_eq_numbers]
  split_ifs
  case neg => exact absurd (by omega) h
  all_goals exact ⟨_, rfl⟩

/-! ### The rows of the opcode table (R72, R73) -/

/-- The mask of INIT's row keeps RSV and OP. -/
theorem and_initMask (w : CmdWord) : w &&& 0xC00F#16 = rsvField w ++ 0#10 ++ opField w := by
  apply BitVec.eq_of_getLsbD_eq
  intro i hi
  simp only [rsvField, opField, BitVec.getLsbD_and, BitVec.getLsbD_append]
  interval_cases i <;> simp

/-- INIT's row covers the words with OP = 1 and RSV = 0. -/
theorem initRow_covers (w : CmdWord) :
    CommandRow.covers ⟨0xC00F#16, 0x0001#16⟩ w = decide (w.toNat % 16 = 1 ∧ w.toNat / 2 ^ 14 = 0) := by
  have := w.isLt
  simp only [CommandRow.covers, and_initMask, ← BitVec.toNat_inj, append_toNat, rsvField_toNat, opField_toNat,
    BitVec.toNat_ofNat]
  rw [decide_eq_decide]
  omega

/-- A row whose mask fixes every bit covers its pattern alone. -/
theorem fixedRow_covers (p w : CmdWord) : CommandRow.covers ⟨0xFFFF#16, p⟩ w = decide (w.toNat = p.toNat) := by
  have h : w &&& 0xFFFF#16 = w := BitVec.and_allOnes
  simp only [CommandRow.covers, h, BitVec.toNat_inj]

/-- Exactly one row covers a legal word, and none an ILLEGAL one: the four rows' conditions exclude one another, and
R76's groups are what they leave. -/
theorem rowsCovering_length (w : CmdWord) :
    (commandRows.filter fun r => r.covers w).length = if illegalWord w then 0 else 1 := by
  have := w.isLt
  simp only [← List.countP_eq_length_filter, commandRows, List.countP_cons, List.countP_nil, initRow_covers,
    fixedRow_covers, illegalWord, decide_eq_true_eq, BitVec.toNat_ofNat]
  split_ifs <;> omega

/-! ### The encoder and the decoders (R75, R79) -/

/-- The three rounds a code of PHASE can select. -/
theorem decodeRound_cases {phase : BitVec 2} {i : Instr} (h : decodeRound phase = .ok i) :
    (i = .initRound ∧ phase = 0b01#2) ∨ (i = .warmRound ∧ phase = 0b10#2) ∨ (i = .genRound ∧ phase = 0b11#2) := by
  unfold decodeRound at h
  split_ifs at h with h1 h2 h3 <;> cases h
  · exact .inl ⟨rfl, h1⟩
  · exact .inr (.inl ⟨rfl, h2⟩)
  · exact .inr (.inr ⟨rfl, h3⟩)

theorem decode_encode {i : Instr} (h : i.wellFormed = true) : decode (encode i) = .ok i := by
  cases i with
  | init klen vlen =>
    simp only [Instr.wellFormed, fitsLenField_eq, Bool.and_eq_true, decide_eq_true_eq] at h
    obtain ⟨hk, hv⟩ := h
    exact decodeCommand_initWord hk hv
  | nop | gen | clear | initRound | warmRound | genRound => rfl

/-- A word that decodes is the encoding of a well-formed instruction. -/
theorem encode_of_decodeCommand {w : CmdWord} {i : Instr} (h : decodeCommand w = .ok i) :
    i.wellFormed = true ∧ encode i = .command w := by
  obtain ⟨rfl, hop, hrsv⟩ | ⟨rfl, rfl⟩ | ⟨rfl, rfl⟩ | ⟨rfl, rfl⟩ := decodeCommand_cases h
  · refine ⟨?_, congrArg Encoded.command (initWord_of_fields hop hrsv)⟩
    simpa [Instr.wellFormed] using ⟨(klenField w).isLt, (vlenField w).isLt⟩
  all_goals exact ⟨rfl, rfl⟩

theorem encode_of_decodeRound {phase : BitVec 2} {i : Instr} (h : decodeRound phase = .ok i) :
    i.wellFormed = true ∧ encode i = .auto phase := by
  obtain ⟨rfl, rfl⟩ | ⟨rfl, rfl⟩ | ⟨rfl, rfl⟩ := decodeRound_cases h <;> exact ⟨rfl, rfl⟩

/-! ### What the host presents for a table word (logs 4 and 5) -/

/-- The width of a table word tells its format. -/
theorem tableWord_cases {nbits w : Nat} {e : Encoded} (h : tableWord nbits w = .ok e) :
    (commandBits ≤ nbits ∧ ∃ cmd, e = .command cmd) ∨ (nbits < commandBits ∧ ∃ phase, e = .auto phase) := by
  unfold tableWord at h
  split_ifs at h with hbits <;> cases h
  · exact .inr ⟨hbits, _, rfl⟩
  · exact .inl ⟨Nat.le_of_not_lt hbits, _, rfl⟩

/-- A table word that the decoder reads is an encoding that decodes. -/
theorem tableWord_of_decodeTableWord {nbits w : Nat} {i : Instr} (h : decodeTableWord nbits w = some i) :
    ∃ e, tableWord nbits w = .ok e ∧ decode e = .ok i := by
  unfold decodeTableWord at h
  split at h
  next e he =>
    cases hd : decode e with
    | ok j =>
      rw [hd] at h
      exact ⟨e, he, hd.trans (congrArg Except.ok (Option.some.inj h))⟩
    | error _ =>
      rw [hd] at h
      cases h
  next => cases h

theorem State.withFetchWord_of_tableWord {nbits w : Nat} {e : Encoded} (s : State) (h : tableWord nbits w = .ok e) :
    s.withFetchWord nbits w = s.presentEncoded e := by
  simp only [State.withFetchWord, h]

/-- R171: without a command, the round that PHASE calls for runs on the edge's defaults. -/
theorem step_of_autonomousRound {s : State} {i : Instr} (h : s.pins.rst = false) (hv : s.pins.cmdValid = false)
    (hi : autonomousRound s.phase = .round i) : step s = afterEdge (exec i s.beginEdge) := by
  simp only [step, edgeAction_of_no_command h hv, hi, rounds_one]

/-- The edge after a command word is put on the `cmd` port runs that command. -/
theorem step_presentEncoded_command {cmd : CmdWord} {i : Instr} (s : State) (h : decodeCommand cmd = .ok i) :
    step (s.presentEncoded (.command cmd)) = afterEdge (exec i (s.presentEncoded (.command cmd))) :=
  step_of_command rfl rfl h

/-- The edge after PHASE is set to a round's code runs that round, GEN_ROUND inside a GEN. -/
theorem step_presentEncoded_auto {phase : BitVec 2} {i : Instr} (s : State) (h : decodeRound phase = .ok i) :
    (i = .initRound ∨ i = .warmRound →
      step (s.presentEncoded (.auto phase)) = afterEdge (exec i (s.presentEncoded (.auto phase)).beginEdge))
    ∧ (i = .genRound → (s.presentEncoded (.auto phase)).phase = .generating
      ∧ step (s.presentEncoded (.auto phase)) = afterEdge (exec .gen (s.presentEncoded (.auto phase)))) := by
  obtain ⟨rfl, rfl⟩ | ⟨rfl, rfl⟩ | ⟨rfl, rfl⟩ := decodeRound_cases h
  · exact ⟨fun _ => step_of_autonomousRound rfl rfl rfl, by simp⟩
  · exact ⟨fun _ => step_of_autonomousRound rfl rfl rfl, by simp⟩
  · exact ⟨by simp, fun _ => ⟨rfl, step_of_command rfl rfl rfl⟩⟩

/-! ### What the host presents for a program (R80, R81; log 4) -/

/-- A count moved to its field, where it fits the word. -/
theorem ofNat_shiftLeft_toNat {n k : Nat} (h : 2 ^ k * n < 2 ^ 16) : (BitVec.ofNat 16 n <<< k).toNat = 2 ^ k * n := by
  rw [BitVec.toNat_shiftLeft, BitVec.toNat_ofNat, Nat.shiftLeft_eq, Nat.mod_mul_mod, Nat.mul_comm, Nat.mod_eq_of_lt h]

/-- INIT.L's word is INIT's encoding: its three fields have no bit in common, so joining them is adding them. -/
theorem initL_word_eq_initWord {klen vlen : Nat} (hk : klen < 32) (hv : vlen < 32) :
    0x0001#16 ||| (BitVec.ofNat 16 klen <<< 4) ||| (BitVec.ofNat 16 vlen <<< 9) = initWord klen vlen := by
  have hlow : 1 ||| 2 ^ 4 * klen = 2 ^ 4 * klen + 1 :=
    (Nat.or_comm _ _).trans (Nat.two_pow_add_eq_or_of_lt (by decide) klen).symm
  have hall : (2 ^ 4 * klen + 1) ||| 2 ^ 9 * vlen = 2 ^ 9 * vlen + (2 ^ 4 * klen + 1) :=
    (Nat.or_comm _ _).trans (Nat.two_pow_add_eq_or_of_lt (by omega) vlen).symm
  have hone : (0x0001#16).toNat = 1 := rfl
  apply BitVec.eq_of_toNat_eq
  rw [BitVec.toNat_or, BitVec.toNat_or, ofNat_shiftLeft_toNat (by omega), ofNat_shiftLeft_toNat (by omega), hone, hlow,
    hall, initWord_toNat, Nat.mod_eq_of_lt hk, Nat.mod_eq_of_lt hv]
  omega

/-- Presenting a program schedules its inputs from the next edge on. -/
theorem State.withProgram_edgePins (s : State) (p : List SourceLine) (k : Nat) :
    (s.withProgram p).edgePins k = (programPins p).getD k Pins.idle := by
  unfold State.withProgram
  cases programPins p with
  | nil => cases k <;> rfl
  | cons x xs => rfl

theorem programPins_append (p q : List SourceLine) : programPins (p ++ q) = programPins p ++ programPins q := by
  simp only [programPins, List.flatMap_append, List.map_append]

theorem programPins_singleton (l : SourceLine) : programPins [l] = l.expand.map Line.pins := by
  simp only [programPins, List.flatMap_singleton]

/-- Assembler lines present their inputs one by one. -/
theorem programPins_lines (p : List Line) : programPins (p.map .line) = p.map Line.pins := by
  simp only [programPins, List.flatMap_map, SourceLine.expand, List.flatMap_singleton']

/-! ### The inputs an edge does not read (R70) -/

/-- The coming of the next inputs forgets those of the edge that is over. -/
theorem State.advance_setInputs (s : State) (p : Pins) : (s.setInputs p s.pending).advance = s.advance := by
  simp only [State.advance, State.setInputs_pending]
  split <;> rfl

/-- No input of an edge reaches the state after its defaults and its autonomous round. -/
theorem State.beginEdge_autonomous_advance_setInputs (s : State) (p : Pins) :
    (s.setInputs p s.pending).beginEdge.autonomous.advance = s.beginEdge.autonomous.advance := by
  have hbegin : (s.setInputs p s.pending).beginEdge = s.beginEdge.setInputs p s.beginEdge.autonomous.pending := by
    rw [State.autonomous_pending]
    rfl
  rw [hbegin, State.autonomous_setInputs, State.advance_setInputs]

/-- R174: an edge with NOP is its defaults and the autonomous round, as is one without a command. -/
theorem step_of_nop {s : State} (h : s.pins.rst = false) (hv : s.pins.cmdValid = true) (hc : s.pins.cmd = 0x0000#16) :
    step s = .next s.beginEdge.autonomous.advance :=
  step_of_command h hv (i := .nop) (hc ▸ rfl)

end Sys2Proof.Machine

open Sys2Proof Sys2Proof.Machine

/-- Settles O36, by the constructors one way and the two decoders' cases the other. -/
theorem decodeAndEncodeAgree : Obligations.DecodeAndEncodeAgree := by
  refine ⟨fun _ h => decode_encode h, fun e i h => ?_⟩
  cases e with
  | command w => exact encode_of_decodeCommand h
  | auto phase => exact encode_of_decodeRound h

/-- Settles O37, by reading R75, R76 and the rows' masks on the number of the word. -/
theorem legalWordsAreExactlyTheTableRows : Obligations.LegalWordsAreExactlyTheTableRows := by
  refine fun w => ⟨⟨fun ⟨i, hi⟩ => ?_, exists_decodeCommand_of_not_illegalWord⟩, rowsCovering_length w,
    decodeCommand_of_illegalWord⟩
  by_contra h
  have hd := decodeCommand_of_illegalWord (eq_true_of_ne_false h)
  cases hd.symm.trans hi

/-- Settles O40: each line by its row, INIT.L's word as INIT's encoding, and a program as the schedule it becomes. -/
theorem assemblerLinesPresentTheirInputs : Obligations.AssemblerLinesPresentTheirInputs := by
  refine ⟨rfl, ⟨rfl, rfl⟩, by decide, fun _ _ => rfl, fun klen vlen key iv hk hv => ?_, fun _ => rfl, fun s p k => ?_⟩
  · exact ⟨_, rfl, (congrArg decodeCommand (initL_word_eq_initWord hk hv)).trans (decodeCommand_initWord hk hv)⟩
  · rw [State.withProgram_edgePins, programPins_lines]

/-- Settles O33: either edge is its defaults and the autonomous round, which read no input. -/
theorem noCommandActsAsNop : Obligations.NoCommandActsAsNop := by
  intro s h hv
  have hnop := step_of_nop (s := s.setInputs { s.pins with cmdValid := true, cmd := 0x0000#16 } s.pending) h rfl rfl
  rw [s.beginEdge_autonomous_advance_setInputs] at hnop
  exact (step_of_no_command h hv).trans hnop.symm

/-- Settles O38, by the format of the word: a command is on the port, a round is PHASE's or comes inside a GEN. -/
theorem fetchedTableWordRunsNext : Obligations.FetchedTableWordRunsNext := by
  intro s nbits w i h
  obtain ⟨e, he, hd⟩ := tableWord_of_decodeTableWord h
  rw [s.withFetchWord_of_tableWord he]
  obtain ⟨hbits, cmd, rfl⟩ | ⟨hbits, phase, rfl⟩ := tableWord_cases he
  · exact ⟨fun _ => step_presentEncoded_command s hd, fun hn => absurd hbits (Nat.not_le.2 hn),
      fun hn => absurd hbits (Nat.not_le.2 hn)⟩
  · obtain ⟨hround, hgen⟩ := step_presentEncoded_auto s hd
    exact ⟨fun hn => absurd hbits (Nat.not_lt.2 hn), fun _ => hround, fun _ => hgen⟩

/-- Settles O39: the decoders compute on each word. -/
theorem writtenOutWordsDecode : Obligations.WrittenOutWordsDecode := by
  unfold Obligations.WrittenOutWordsDecode
  decide

/-- Settles O41, by expanding each source line. -/
theorem pseudoInstructionsExpand : Obligations.PseudoInstructionsExpand := by
  refine ⟨fun n => ?_, fun key iv => ?_, fun n => ?_, programPins_append⟩
  · rw [programPins_singleton, SourceLine.expand, List.map_replicate]
  · rw [programPins_singleton, programPins_singleton]
    rfl
  · rw [programPins_singleton, SourceLine.expand, List.map_replicate]
end

section
/-! SUPPORT. The LFSR block of 40_lfsr.md as arithmetic modulo P: AddMod and the 31-bit rotation as numbers and as
residues, the feedback sum, what the updates store, and the number that the load packs. -/

namespace Sys2Proof.Machine

open Sys2Proof

/-! ### AddMod (R103) -/

/-- Adding the top bit of a 32-bit sum to its low 31 bits needs no more than 31 bits, if the sum is one of two 31-bit
words. -/
theorem foldTopBit_toNat {sum : BitVec 32} (h : sum.toNat < 2 ^ 32 - 1) :
    (sum.extractLsb' 0 31 + (sum.extractLsb' 31 1).setWidth 31 : Word31).toNat
      = sum.toNat % 2 ^ 31 + sum.toNat / 2 ^ 31 := by
  have htop : sum.toNat / 2 ^ 31 < 2 ^ 1 := by omega
  rw [BitVec.toNat_add, BitVec.toNat_setWidth, BitVec.extractLsb'_toNat, BitVec.extractLsb'_toNat, Nat.shiftRight_zero,
    Nat.shiftRight_eq_div_pow, Nat.mod_eq_of_lt htop]
  omega

/-- R103: 32 bits suffice for the sum. -/
theorem setWidth_add_toNat (a b : Word31) : (a.setWidth 32 + b.setWidth 32 : BitVec 32).toNat = a.toNat + b.toNat := by
  rw [BitVec.toNat_add, BitVec.toNat_setWidth, BitVec.toNat_setWidth]
  omega

/-- R103: the fold takes P off a sum of 2^31 or more, and the re-reduction takes it off where P itself is left. -/
theorem addMod_toNat (a b : Word31) : (addMod a b).toNat = (a.toNat + b.toNat) % Config.modulus := by
  have ha := a.isLt
  have hb := b.isLt
  have hsum := setWidth_add_toNat a b
  have hfold := foldTopBit_toNat (sum := a.setWidth 32 + b.setWidth 32) (by omega)
  rw [hsum] at hfold
  simp only [addMod, ← BitVec.toNat_inj, apply_ite BitVec.toNat, hfold, BitVec.toNat_ofNat, Config.modulus]
  split <;> omega

theorem addMod_lt_modulus (a b : Word31) : (addMod a b).toNat < Config.modulus := by
  rw [addMod_toNat]
  exact Nat.mod_lt _ (by decide)

/-! ### RotMulPow2 (R104) -/

/-- R104: for an amount below the width, `rotl31` is the library's rotation of a 31-bit word. -/
theorem rotl31_eq_rotateLeft (x : Word31) {k : Nat} (hk : k < 31) : rotl31 x k = x.rotateLeft k :=
  (BitVec.rotateLeft_eq_rotateLeftAux_of_lt hk).symm

/-- The rotation as a number: the low 31 - k bits move up by k places, and the high k bits come in below them. -/
theorem rotl31_toNat (x : Word31) {k : Nat} (hk : k < 31) :
    (rotl31 x k).toNat = x.toNat % 2 ^ (31 - k) * 2 ^ k + x.toNat / 2 ^ (31 - k) := by
  have hpow : 2 ^ 31 = 2 ^ (31 - k) * 2 ^ k := by rw [← Nat.pow_add, Nat.sub_add_cancel hk.le]
  have hhigh : x.toNat / 2 ^ (31 - k) < 2 ^ k := Nat.div_lt_of_lt_mul (hpow ▸ x.isLt)
  rw [rotl31, BitVec.toNat_or, BitVec.toNat_shiftLeft, BitVec.toNat_ushiftRight, Nat.shiftRight_eq_div_pow,
    Nat.shiftLeft_eq, hpow, Nat.mul_mod_mul_right, ← Nat.shiftLeft_eq, Nat.shiftLeft_add_eq_or_of_lt hhigh]

/-- R104: the rotation multiplies by 2^k modulo P. The k bits that leave at the top weigh 2^31 = P + 1 times what they
weigh at the bottom. -/
theorem rotMulPow2_modEq (x : Word31) {k : Nat} (hk : k < 31) :
    (rotMulPow2 x k).toNat ≡ x.toNat * 2 ^ k [MOD Config.modulus] := by
  have hpow : 2 ^ (31 - k) * 2 ^ k = Config.modulus + 1 := by rw [← Nat.pow_add, Nat.sub_add_cancel hk.le]; rfl
  have hx : x.toNat * 2 ^ k = (rotMulPow2 x k).toNat + Config.modulus * (x.toNat / 2 ^ (31 - k)) := by
    rw [rotMulPow2, rotl31_toNat x hk]
    calc x.toNat * 2 ^ k
        = (x.toNat % 2 ^ (31 - k) + 2 ^ (31 - k) * (x.toNat / 2 ^ (31 - k))) * 2 ^ k := by rw [Nat.mod_add_div]
      _ = x.toNat % 2 ^ (31 - k) * 2 ^ k + 2 ^ (31 - k) * 2 ^ k * (x.toNat / 2 ^ (31 - k)) := by ring
      _ = _ := by rw [hpow]; ring
  rw [hx]
  exact (Nat.add_mul_mod_self_left _ _ _).symm

/-- R104: bit i moves to bit i + k, around the end of the word. -/
theorem rotMulPow2_getLsbD (x : Word31) {k i : Nat} (hk : k < 31) (hi : i < 31) :
    (rotMulPow2 x k).getLsbD ((i + k) % 31) = x.getLsbD i := by
  rw [rotMulPow2, rotl31_eq_rotateLeft x hk, BitVec.getLsbD_rotateLeft, Nat.mod_eq_of_lt hk]
  obtain hin | hout : i + k < 31 ∨ 31 ≤ i + k := Nat.lt_or_ge _ _
  · simp [Nat.mod_eq_of_lt hin, hin]
  · have hj : (i + k) % 31 = i + k - 31 := by omega
    have hback : 31 - k + (i + k - 31) = i := by omega
    have hlow : i + k - 31 < k := by omega
    simp [hj, hlow, hback]

/-- No bit is lost: two words with the same rotation have the same bits. -/
theorem rotMulPow2_injective {k : Nat} (hk : k < 31) : Function.Injective (rotMulPow2 · k) := by
  intro x y h
  apply BitVec.eq_of_getLsbD_eq
  intro i hi
  rw [← rotMulPow2_getLsbD x hk hi, ← rotMulPow2_getLsbD y hk hi]
  exact congrArg (BitVec.getLsbD · _) h

theorem rotMulPow2_zero (k : Nat) : rotMulPow2 0#31 k = 0#31 := by
  simp [rotMulPow2, rotl31]

theorem rotateLeft_allOnes (w k : Nat) : (BitVec.allOnes w).rotateLeft k = BitVec.allOnes w := by
  ext i hi
  rw [BitVec.getElem_rotateLeft]
  simp only [BitVec.getElem_allOnes, dite_eq_ite, ite_self]

/-- R100: 2^31 - 1, all bits set, goes to itself. -/
theorem rotMulPow2_modulus {k : Nat} (hk : k < 31) : rotMulPow2 0x7FFFFFFF#31 k = 0x7FFFFFFF#31 :=
  (rotl31_eq_rotateLeft _ hk).trans (rotateLeft_allOnes 31 k)

/-! ### Feedback (R105) -/

/-- One step of the chain of R105: adding a rotated tap adds its weighted value to the residue. -/
theorem addMod_rotMulPow2_modEq {a : Word31} {n : Nat} (ha : a.toNat ≡ n [MOD Config.modulus]) (x : Word31) {k : Nat}
    (hk : k < 31) : (addMod a (rotMulPow2 x k)).toNat ≡ n + x.toNat * 2 ^ k [MOD Config.modulus] := by
  rw [addMod_toNat]
  exact (Nat.mod_modEq _ _).trans (ha.add (rotMulPow2_modEq x hk))

/-- R105: the chain is reduced, and it is congruent to the weighted sum. -/
theorem feedback_toNat (l : Lfsr) : (feedback l).toNat = feedbackSum l := by
  have h1 := addMod_rotMulPow2_modEq (Nat.ModEq.refl l[0].toNat) l[0] (k := 8) (by decide)
  have h2 := addMod_rotMulPow2_modEq h1 l[4] (k := 20) (by decide)
  have h3 := addMod_rotMulPow2_modEq h2 l[10] (k := 21) (by decide)
  have h4 := addMod_rotMulPow2_modEq h3 l[13] (k := 17) (by decide)
  have h5 := addMod_rotMulPow2_modEq h4 l[15] (k := 15) (by decide)
  calc (feedback l).toNat = (feedback l).toNat % Config.modulus :=
        (Nat.mod_eq_of_lt (addMod_lt_modulus _ _)).symm
    _ = _ := h5
    _ = feedbackSum l := by rw [feedbackSum]; congr 1; ring

/-! ### What the updates store (R106, R107) -/

theorem substituteZero_toNat (f : Word31) : (substituteZero f).toNat = storedForm f.toNat := by
  simp only [substituteZero, storedForm, apply_ite BitVec.toNat, ← BitVec.toNat_inj]
  rfl

theorem initModeUpdate_getElem_last (l : Lfsr) (u : Word31) :
    (initModeUpdate l u)[15] = substituteZero (addMod (feedback l) u) :=
  shiftIn_getElem_last _ _

theorem workModeUpdate_getElem_last (l : Lfsr) : (workModeUpdate l)[15] = substituteZero (feedback l) :=
  shiftIn_getElem_last _ _

/-! ### The load (R101) -/

/-- 20_memory.md R52: byte 0 is the most significant byte of a port. -/
theorem portByte_toNat (port : BitVec 128) (i : Nat) :
    (portByte port i).toNat = port.toNat / 2 ^ (120 - 8 * i) % 256 := by
  rw [portByte, BitVec.extractLsb'_toNat, Nat.shiftRight_eq_div_pow]

/-- The load's three fields, joined, are the number with those fields. -/
theorem loadWord_toNat (key iv : BitVec 128) (i : Nat) : (loadWord key iv i).toNat = loadNumber key iv i := by
  simp only [loadWord, append_toNat, portByte_toNat, BitVec.extractLsb'_toNat, Nat.shiftRight_zero, loadNumber]
  ring

/-- The least and the greatest D[i][14:0] of 10_state.md R29. -/
theorem dRead_low_range :
    ∀ i < 16, 0x09AF ≤ (dRead i).toNat % 2 ^ 15 ∧ (dRead i).toNat % 2 ^ 15 ≤ 0x789A := by
  decide

/-- R101: whatever the key and the IV, a loaded register lies where D[i][14:0] puts it. -/
theorem loadNumber_range (key iv : BitVec 128) {i : Nat} (h : i < 16) :
    0x0009AF00 ≤ loadNumber key iv i ∧ loadNumber key iv i ≤ 0x7FF89AFF := by
  obtain ⟨hlow, hhigh⟩ := dRead_low_range i h
  have hkey : key.toNat / 2 ^ (120 - 8 * i) % 256 < 256 := Nat.mod_lt _ (by decide)
  have hiv : iv.toNat / 2 ^ (120 - 8 * i) % 256 < 256 := Nat.mod_lt _ (by decide)
  unfold loadNumber
  omega

end Sys2Proof.Machine

open Sys2Proof Sys2Proof.Machine

/-- Settles O1: one fold and the re-reduction take P off a sum of two 31-bit numbers as often as needed. -/
theorem addModAddsModuloP : Obligations.AddModAddsModuloP :=
  addMod_toNat

/-- Settles O2: the rotation as a number, as a movement of bits, and as an injection that fixes 0 and 2^31 - 1. -/
theorem rotMulPow2MultipliesByPowerOfTwo : Obligations.RotMulPow2MultipliesByPowerOfTwo := by
  intro x k _ hk
  exact ⟨rotMulPow2_modEq x hk, fun _ hi => rotMulPow2_getLsbD x hk hi,
    (rotMulPow2_injective hk).eq_iff' (rotMulPow2_zero k), (rotMulPow2_injective hk).eq_iff' (rotMulPow2_modulus hk)⟩

/-- Settles O3, tap by tap along the chain of AddMods. -/
theorem feedbackIsWeightedTapSum : Obligations.FeedbackIsWeightedTapSum :=
  feedback_toNat

/-- Settles O4: the shift, and the sum that enters in its stored form. -/
theorem initModeUpdateShiftsAndStoresSum : Obligations.InitModeUpdateShiftsAndStoresSum := by
  refine fun l u => ⟨fun i h => shiftIn_getElem_lt _ _ i h, ?_⟩
  rw [initModeUpdate_getElem_last, substituteZero_toNat, addMod_toNat, feedback_toNat]

/-- Settles O5: the shift, and the feedback that enters in its stored form. -/
theorem workModeUpdateShiftsAndStoresFeedback : Obligations.WorkModeUpdateShiftsAndStoresFeedback := by
  refine fun l => ⟨fun i h => shiftIn_getElem_lt _ _ i h, ?_⟩
  rw [workModeUpdate_getElem_last, substituteZero_toNat, feedback_toNat]

/-- Settles O6: what enters is never 0, and the shift brings in no other new value. -/
theorem updatesKeepLfsrInRange : Obligations.UpdatesKeepLfsrInRange := by
  refine fun l u => ⟨⟨?_, ?_⟩, fun hl i => ⟨initModeUpdate_ne_zero hl u i, workModeUpdate_ne_zero hl i⟩⟩
  · rw [initModeUpdate_getElem_last]
    exact substituteZero_ne_zero _
  · rw [workModeUpdate_getElem_last]
    exact substituteZero_ne_zero _

/-- Settles O7: the joined fields as a number, whose place the range of D[i][14:0] bounds. -/
theorem loadPacksKeyConstantAndIv : Obligations.LoadPacksKeyConstantAndIv := by
  intro key iv i h
  rw [load_getElem, loadWord_toNat]
  exact ⟨rfl, loadNumber_range key iv h⟩
end

section
/-! SUPPORT. The bit reorganizer of 41_bit_reorganizer.md as arithmetic: X1 and X2, which join an L(x) with an H(y), in
addition to `bitReorganize_x0` and `bitReorganize_x3`. -/

namespace Sys2Proof.Machine

open Sys2Proof

/-- R130: L(x) ‖ H(y) as a join of two numbers. -/
theorem lowHalf_append_highHalf (x y : Word31) :
    lowHalf x ++ highHalf y = joinHalves (x.toNat % 2 ^ 16) (y.toNat / 2 ^ 15) := by
  rw [append_eq_joinHalves, lowHalf_toNat, highHalf_toNat]

theorem bitReorganize_x1 (l : Lfsr) : (bitReorganize l).x1 = cipherX1 l :=
  lowHalf_append_highHalf l[11] l[9]

theorem bitReorganize_x2 (l : Lfsr) : (bitReorganize l).x2 = cipherX2 l :=
  lowHalf_append_highHalf l[7] l[5]

end Sys2Proof.Machine

open Sys2Proof Sys2Proof.Machine

/-- Settles O8, word by word: each is a join of half-words read as numbers. -/
theorem bitReorganizePacksHalves : Obligations.BitReorganizePacksHalves :=
  fun l => ⟨bitReorganize_x0 l, bitReorganize_x1 l, bitReorganize_x2 l, bitReorganize_x3 l⟩
end

section
/-! SUPPORT. The nonlinear function of 42_nonlinear_f.md: rotl32 and the linear transforms bit by bit, the S-layer byte
lane by byte lane, and R1 and R2 of F as arithmetic, in addition to `nonlinearF_w`. -/

namespace Sys2Proof.Machine

open Sys2Proof

/-! ### rotl32 (R140) -/

/-- `rotl32` is the library's rotation of a 32-bit word. -/
theorem rotl32_eq_rotateLeft (x : Word32) (k : Nat) : rotl32 x k = x.rotateLeft k := rfl

/-- R140: bit i comes from k places below it, around the end of the word. -/
theorem rotl32_getLsbD (x : Word32) (k : Nat) {i : Nat} (hi : i < 32) :
    (rotl32 x k).getLsbD i = x.getLsbD ((i + (32 - k % 32)) % 32) := by
  rw [rotl32_eq_rotateLeft, BitVec.getLsbD_rotateLeft]
  by_cases hlow : i < k % 32
  · have hfront : (i + (32 - k % 32)) % 32 = 32 - k % 32 + i := by omega
    simp [hlow, hfront]
  · have hback : (i + (32 - k % 32)) % 32 = i - k % 32 := by omega
    simp [hlow, hi, hback]

theorem rotl32_rotl32 (x : Word32) (k m : Nat) : rotl32 (rotl32 x k) m = rotl32 x ((k + m) % 32) := by
  apply BitVec.eq_of_getLsbD_eq
  intro i hi
  rw [rotl32_getLsbD _ _ hi, rotl32_getLsbD _ _ (Nat.mod_lt _ (by decide)), rotl32_getLsbD _ _ hi]
  congr 1
  omega

theorem rotl32_xor (x y : Word32) (k : Nat) : rotl32 (x ^^^ y) k = rotl32 x k ^^^ rotl32 y k := by
  apply BitVec.eq_of_getLsbD_eq
  intro i hi
  simp only [BitVec.getLsbD_xor, rotl32_getLsbD _ _ hi]

/-! ### L1 and L2 (R141, R142) -/

theorem l1_getLsbD (x : Word32) {i : Nat} (hi : i < 32) :
    (l1 x).getLsbD i = (x.getLsbD i ^^ x.getLsbD ((i + 30) % 32) ^^ x.getLsbD ((i + 22) % 32)
      ^^ x.getLsbD ((i + 14) % 32) ^^ x.getLsbD ((i + 8) % 32)) := by
  simp only [l1, BitVec.getLsbD_xor, rotl32_getLsbD _ _ hi]

theorem l2_getLsbD (x : Word32) {i : Nat} (hi : i < 32) :
    (l2 x).getLsbD i = (x.getLsbD i ^^ x.getLsbD ((i + 24) % 32) ^^ x.getLsbD ((i + 18) % 32)
      ^^ x.getLsbD ((i + 10) % 32) ^^ x.getLsbD ((i + 2) % 32)) := by
  simp only [l2, BitVec.getLsbD_xor, rotl32_getLsbD _ _ hi]

theorem l1_xor (x y : Word32) : l1 (x ^^^ y) = l1 x ^^^ l1 y := by
  simp only [l1, rotl32_xor]
  ac_rfl

theorem l2_xor (x y : Word32) : l2 (x ^^^ y) = l2 x ^^^ l2 y := by
  simp only [l2, rotl32_xor]
  ac_rfl

/-! ### The S-layer (R143) -/

/-- The set of the bytes that stand in a table, as a number: bit b is set if byte b stands in it. -/
def byteSet : List Byte → Nat
  | [] => 0
  | b :: t => 2 ^ b.toNat ||| byteSet t

theorem testBit_byteSet (t : List Byte) (b : Byte) : (byteSet t).testBit b.toNat = true ↔ b ∈ t := by
  induction t with
  | nil => simp [byteSet]
  | cons c t ih =>
    have hc : c.toNat = b.toNat ↔ b = c := BitVec.toNat_inj.trans eq_comm
    simp [byteSet, Nat.testBit_or, Nat.testBit_two_pow, ih, hc]

/-- A table of 256 entries in which every byte stands is read at different bytes as different bytes. -/
theorem tableRead_injective {t : List Byte} (hlen : t.length = 256) (hall : byteSet t = 2 ^ 256 - 1) :
    Function.Injective fun b : Byte => t.getD b.toNat 0 := by
  apply Finite.injective_iff_surjective.mpr
  intro b
  have hbit : (byteSet t).testBit b.toNat = true := by
    rw [hall, Nat.testBit_two_pow_sub_one, decide_eq_true b.isLt]
  obtain ⟨i, hi, hib⟩ := List.getElem_of_mem ((testBit_byteSet t b).mp hbit)
  refine ⟨BitVec.ofNat 8 i, ?_⟩
  have hindex : (BitVec.ofNat 8 i).toNat = i := Nat.mod_eq_of_lt (hi.trans_eq hlen)
  simp only [hindex, List.getD_eq_getElem _ _ hi, hib]

/-- 10_state.md R27: S0 is a permutation of the bytes. -/
theorem s0Read_injective : Function.Injective s0Read :=
  tableRead_injective (by decide +kernel) (by decide +kernel)

/-- 10_state.md R28: S1 is a permutation of the bytes. -/
theorem s1Read_injective : Function.Injective s1Read :=
  tableRead_injective (by decide +kernel) (by decide +kernel)

/-- The byte that stands above the low n bits of a word. -/
theorem extractLsb'_eq_ofNat (x : Word32) (n : Nat) : x.extractLsb' n 8 = BitVec.ofNat 8 (x.toNat / 2 ^ n) := by
  rw [BitVec.extractLsb', Nat.shiftRight_eq_div_pow]

/-- R143: the four substituted bytes, joined. -/
theorem sbox32_toNat (x : Word32) :
    (sbox32 x).toNat = (((s0Read (BitVec.ofNat 8 (x.toNat / 2 ^ 24))).toNat * 2 ^ 8
      + (s1Read (BitVec.ofNat 8 (x.toNat / 2 ^ 16))).toNat) * 2 ^ 8
      + (s0Read (BitVec.ofNat 8 (x.toNat / 2 ^ 8))).toNat) * 2 ^ 8
      + (s1Read (BitVec.ofNat 8 x.toNat)).toNat := by
  simp only [sbox32, append_toNat, extractLsb'_eq_ofNat, Nat.pow_zero, Nat.div_one]

theorem sbox32_lanes (x : Word32) :
    (sbox32 x).toNat / 2 ^ 24 = (s0Read (BitVec.ofNat 8 (x.toNat / 2 ^ 24))).toNat
    ∧ (sbox32 x).toNat / 2 ^ 16 % 256 = (s1Read (BitVec.ofNat 8 (x.toNat / 2 ^ 16))).toNat
    ∧ (sbox32 x).toNat / 2 ^ 8 % 256 = (s0Read (BitVec.ofNat 8 (x.toNat / 2 ^ 8))).toNat
    ∧ (sbox32 x).toNat % 256 = (s1Read (BitVec.ofNat 8 x.toNat)).toNat := by
  rw [sbox32_toNat]
  omega

/-- Four lanes determine a word, and each table determines the byte it was read at. -/
theorem sbox32_injective : Function.Injective sbox32 := by
  intro x y h
  obtain ⟨hx3, hx2, hx1, hx0⟩ := sbox32_lanes x
  obtain ⟨hy3, hy2, hy1, hy0⟩ := sbox32_lanes y
  rw [h] at hx3 hx2 hx1 hx0
  have h3 := s0Read_injective (BitVec.eq_of_toNat_eq (hx3.symm.trans hy3))
  have h2 := s1Read_injective (BitVec.eq_of_toNat_eq (hx2.symm.trans hy2))
  have h1 := s0Read_injective (BitVec.eq_of_toNat_eq (hx1.symm.trans hy1))
  have h0 := s1Read_injective (BitVec.eq_of_toNat_eq (hx0.symm.trans hy0))
  bv_omega

/-! ### R1 and R2 of F (R144) -/

/-- R144: the low half of a ‖ the high half of b, as 90_conflicts.md C2 selects them. -/
theorem lowerHalf_append_upperHalf (a b : Word32) :
    a.extractLsb' 0 16 ++ b.extractLsb' 16 16 = joinHalves (a.toNat % 2 ^ 16) (b.toNat / 2 ^ 16) := by
  have hb : b.toNat / 2 ^ 16 < 2 ^ 16 := by omega
  rw [append_eq_joinHalves, BitVec.extractLsb'_toNat, BitVec.extractLsb'_toNat, Nat.shiftRight_zero,
    Nat.shiftRight_eq_div_pow, Nat.mod_eq_of_lt hb]

theorem nonlinearF_r1 (x0 x1 x2 r1 r2 : Word32) : (nonlinearF x0 x1 x2 r1 r2).r1 = cipherR1 x1 x2 r1 r2 := by
  simp only [nonlinearF, cipherR1, lowerHalf_append_upperHalf, BitVec.toNat_add,
    Nat.mod_mod_of_dvd _ (Nat.pow_dvd_pow 2 (show 16 ≤ 32 by decide))]

theorem nonlinearF_r2 (x0 x1 x2 r1 r2 : Word32) : (nonlinearF x0 x1 x2 r1 r2).r2 = cipherR2 x1 x2 r1 r2 := by
  simp only [nonlinearF, cipherR2, lowerHalf_append_upperHalf, BitVec.toNat_add]

end Sys2Proof.Machine

open Sys2Proof Sys2Proof.Machine

/-- Settles O9, from where each bit of a rotation comes from: the bit i + k places up is k places above bit i. -/
theorem rotl32MovesBitsAndComposes : Obligations.Rotl32MovesBitsAndComposes := by
  refine fun x k m => ⟨fun i hi => ?_, rotl32_rotl32 x k m⟩
  have hback : ((i + k) % 32 + (32 - k % 32)) % 32 = i := by omega
  rw [rotl32_getLsbD _ _ (Nat.mod_lt _ (by decide)), hback]

/-- Settles O10: both transforms bit by bit, and their linearity from that of a rotation. -/
theorem linearTransformsXorFiveRotations : Obligations.LinearTransformsXorFiveRotations :=
  fun x y => ⟨fun _ hi => l1_getLsbD x hi, fun _ hi => l2_getLsbD x hi, l1_xor x y, l2_xor x y⟩

/-- Settles O11: the lanes of the joined word; an injection of a finite type into itself is a bijection. -/
theorem sboxLayerIsLanewiseBijection : Obligations.SboxLayerIsLanewiseBijection :=
  ⟨sbox32_lanes, sbox32_injective.bijective_of_finite⟩

/-- Settles O12, part by part of F's result. -/
theorem nonlinearFComputesWordAndFeedback : Obligations.NonlinearFComputesWordAndFeedback :=
  fun x0 x1 x2 r1 r2 => ⟨nonlinearF_w x0 x1 x2 r1 r2, nonlinearF_r1 x0 x1 x2 r1 r2, nonlinearF_r2 x0 x1 x2 r1 r2⟩
end

section
/-! SUPPORT. Facts about one edge of the session controller of 43_session_controller.md: the rounds and the load as the
cipher's, what each instruction answers, and the state after an edge by what it presents and by PHASE. -/

namespace Sys2Proof.Machine

open Sys2Proof

/-! ### The cipher state a core holds -/

@[simp] theorem State.setErr_cipher (s : State) (e : ErrorKind) : (s.setErr e).cipher = s.cipher := rfl
@[simp] theorem State.setObsv_cipher (s : State) (b : Bool) : (s.setObsv b).cipher = s.cipher := rfl
@[simp] theorem State.setZvalid_cipher (s : State) (b : Bool) : (s.setZvalid b).cipher = s.cipher := rfl
@[simp] theorem State.setZout_cipher (s : State) (z : Word32) : (s.setZout z).cipher = s.cipher := rfl
@[simp] theorem State.beginEdge_cipher (s : State) : s.beginEdge.cipher = s.cipher := rfl
@[simp] theorem State.raise_cipher (s : State) (e : ErrorKind) : (s.raise e).cipher = s.cipher := rfl
@[simp] theorem State.advance_cipher (s : State) : s.advance.cipher = s.cipher := by simp [State.cipher]

/-! ### The rounds as rounds of the cipher (R179, R180, R181) -/

/-- 42_nonlinear_f.md R144 on the words of the round: the new R1. -/
theorem State.roundF_r1 (s : State) :
    s.roundF.r1 = cipherR1 (cipherX1 s.lfsr) (cipherX2 s.lfsr) s.r1 s.r2 := by
  simp only [State.roundF, nonlinearF_r1, bitReorganize_x1, bitReorganize_x2]

/-- R144 on the words of the round: the new R2. -/
theorem State.roundF_r2 (s : State) :
    s.roundF.r2 = cipherR2 (cipherX1 s.lfsr) (cipherX2 s.lfsr) s.r1 s.r2 := by
  simp only [State.roundF, nonlinearF_r2, bitReorganize_x1, bitReorganize_x2]

theorem State.roundF_w (s : State) : s.roundF.w = s.cipher.w := by
  simp only [State.roundF, nonlinearF_w, bitReorganize_x0, State.cipher, Cipher.w]

/-- Any round: the window shifted by one with `f` entering in its stored form, and F's R1 and R2. -/
theorem State.shifted_cipher (s : State) (f : Word31) :
    ⟨shiftIn s.lfsr (substituteZero f), s.roundF.r1, s.roundF.r2⟩ = s.cipher.shifted f.toNat := by
  have hf : substituteZero f = BitVec.ofNat 31 (storedForm f.toNat) := by
    rw [← substituteZero_toNat, BitVec.ofNat_toNat, BitVec.setWidth_eq]
  rw [hf, State.roundF_r1, State.roundF_r2]
  rfl

/-- R179: u = W[31:1] is W / 2. -/
theorem upperBits_toNat (w : Word32) : (w.extractLsb' 1 31).toNat = w.toNat / 2 := by
  rw [BitVec.extractLsb'_toNat, Nat.shiftRight_eq_div_pow]
  omega

@[simp] theorem State.initRound_cipher (s : State) : s.initRound.cipher = s.cipher.initRound := by
  rw [State.cipher, State.initRound_lfsr, State.initRound_r1, State.initRound_r2, initModeUpdate, State.shifted_cipher,
    addMod_toNat, feedback_toNat, upperBits_toNat, State.roundF_w]
  rfl

/-- R180, R181: what a warm-up round and a generation round have in common. -/
theorem State.workMode_cipher (s : State) :
    ⟨workModeUpdate s.lfsr, s.roundF.r1, s.roundF.r2⟩ = s.cipher.workRound := by
  rw [workModeUpdate, State.shifted_cipher, feedback_toNat]
  rfl

@[simp] theorem State.warmRound_cipher (s : State) : s.warmRound.cipher = s.cipher.workRound :=
  s.workMode_cipher

@[simp] theorem State.genRound_cipher (s : State) : s.genRound.cipher = s.cipher.workRound :=
  s.workMode_cipher

/-- R101, R175: the load is the cipher's. -/
@[simp] theorem State.startSession_cipher (s : State) :
    s.startSession.cipher = Cipher.loaded s.pins.keyIn s.pins.ivIn := by
  have hload : load s.pins.keyIn s.pins.ivIn = (Cipher.loaded s.pins.keyIn s.pins.ivIn).l := by
    refine Vector.ext fun i hi => ?_
    simp only [load_getElem, Cipher.loaded, Vector.getElem_ofFn, ← loadWord_toNat, BitVec.ofNat_toNat,
      BitVec.setWidth_eq]
  simp [State.cipher, hload, Cipher.loaded]

/-- R179: the round that has RC = 31 is the last initialization round. -/
theorem State.initRound_phase_eq (s : State) : s.initRound.phase = if s.rc = 31#6 then .warming else s.phase := by
  have hlast : s.rc.toNat + 1 = Config.initRounds ↔ s.rc = 31#6 := by
    rw [← BitVec.toNat_inj, Config.initRounds, BitVec.toNat_ofNat]
    omega
  simp only [State.initRound_phase, hlast]

/-- R25: in the range of an initialization round the counter does not wrap. -/
theorem State.rc_add_one_toNat {s : State} (h : s.rc.toNat ≤ 31) : (s.rc + 1#6).toNat = s.rc.toNat + 1 := by
  rw [BitVec.toNat_add, BitVec.toNat_ofNat]
  omega

/-! ### What each instruction answers (R174 to R181) -/

theorem exec_nop (s : State) : exec .nop s = .next s.beginEdge.autonomous := rfl

theorem exec_clear (s : State) : exec .clear s = .next s.resetRegisters := rfl

theorem exec_initRound (s : State) : exec .initRound s = .next (s.initRound.setObsv true) := rfl

theorem exec_warmRound (s : State) : exec .warmRound s = .next (s.warmRound.setObsv true) := rfl

theorem exec_genRound (s : State) : exec .genRound s = .next s.genRound := rfl

theorem exec_init_of_klen_ne {klen : Nat} (h : klen ≠ 16) (vlen : Nat) (s : State) :
    exec (.init klen vlen) s = .next (s.reject .invalidKeyLength) :=
  if_pos (decide_eq_false h)

/-- R213: the IV count is checked where the key count is accepted. -/
theorem exec_init_of_vlen_ne {vlen : Nat} (h : vlen ≠ 16) (s : State) :
    exec (.init 16 vlen) s = .next (s.reject .invalidIvLength) :=
  if_pos (decide_eq_false h)

theorem exec_init_sixteen (s : State) : exec (.init 16 16) s = .next s.beginEdge.startSession := rfl

theorem exec_gen_of_generating {s : State} (h : s.phase = .generating) : exec .gen s = .next s.afterGen :=
  if_pos h

theorem exec_gen_of_not_generating {s : State} (h : s.phase ≠ .generating) :
    exec .gen s = .next (s.reject .useBeforeInitialize) :=
  if_neg h

/-- 60_exceptions.md R212: a rejected command does what a NOP does with ERR already written. -/
theorem exec_nop_setErr (s : State) (e : ErrorKind) : exec .nop (s.setErr e) = .next (s.reject e) := rfl

/-- R170: no instruction stops the core. -/
theorem exists_exec_eq_next (i : Instr) (s : State) : ∃ t, exec i s = .next t := by
  cases i with
  | nop => exact ⟨_, exec_nop s⟩
  | init klen vlen =>
    obtain hk | rfl := ne_or_eq klen 16
    · exact ⟨_, exec_init_of_klen_ne hk vlen s⟩
    · obtain hv | rfl := ne_or_eq vlen 16
      · exact ⟨_, exec_init_of_vlen_ne hv s⟩
      · exact ⟨_, exec_init_sixteen s⟩
  | gen =>
    by_cases hp : s.phase = .generating
    · exact ⟨_, exec_gen_of_generating hp⟩
    · exact ⟨_, exec_gen_of_not_generating hp⟩
  | clear => exact ⟨_, exec_clear s⟩
  | initRound => exact ⟨_, exec_initRound s⟩
  | warmRound => exact ⟨_, exec_warmRound s⟩
  | genRound => exact ⟨_, exec_genRound s⟩

/-! ### Edges by what they present and by PHASE (R171, R182) -/

section Fields

variable {s u : State}

theorem State.BeginsRound.cipher_eq (h : s.BeginsRound u) : u.cipher = s.cipher := by
  obtain rfl | ⟨e, rfl⟩ := h <;> simp

theorem State.BeginsRound.rc_eq (h : s.BeginsRound u) : u.rc = s.rc := by
  obtain rfl | ⟨e, rfl⟩ := h <;> simp

theorem State.BeginsRound.sameInputs (h : s.BeginsRound u) : s.SameInputs u := by
  obtain rfl | ⟨e, rfl⟩ := h <;> simp [State.SameInputs]

theorem State.DropsSession.sameInputs (h : s.DropsSession u) : s.SameInputs u := by
  obtain rfl | rfl := h <;> simp [State.SameInputs]

end Fields

/-- An edge that neither ends the session nor has a GEN succeed goes on with the autonomous round. -/
theorem step_of_not_accepted {s : State} (h : s.pins.endsSession = false)
    (hg : ¬ (s.pins.isGen = true ∧ s.phase = .generating)) :
    ∃ u, s.BeginsRound u ∧ step s = .next u.autonomous.advance := by
  obtain ⟨hend, -⟩ | ⟨hgen, -⟩ | ⟨-, -, hround⟩ := edge_kinds s
  · simp [h] at hend
  · exact absurd hgen hg
  · exact hround

theorem step_of_initializing {s : State} (hp : s.phase = .initializing) (h : s.pins.endsSession = false) :
    ∃ u, s.BeginsRound u ∧ step s = .next (u.initRound.setObsv true).advance := by
  obtain ⟨u, hu, hs⟩ := step_of_not_accepted h (by simp [hp])
  exact ⟨u, hu, State.autonomous_of_initializing (hu.phase_eq.trans hp) ▸ hs⟩

theorem step_of_warming {s : State} (hp : s.phase = .warming) (h : s.pins.endsSession = false) :
    ∃ u, s.BeginsRound u ∧ step s = .next (u.warmRound.setObsv true).advance := by
  obtain ⟨u, hu, hs⟩ := step_of_not_accepted h (by simp [hp])
  exact ⟨u, hu, State.autonomous_of_warming (hu.phase_eq.trans hp) ▸ hs⟩

/-- UNINITIALIZED and GENERATING call for no round. -/
theorem State.autonomous_of_idle_phase {s : State} (hp : s.phase = .uninitialized ∨ s.phase = .generating) :
    s.autonomous = s :=
  hp.elim State.autonomous_of_uninitialized State.autonomous_of_generating

theorem step_of_idle_phase {s : State} (hp : s.phase = .uninitialized ∨ s.phase = .generating)
    (h : s.pins.endsSession = false) (hg : ¬ (s.pins.isGen = true ∧ s.phase = .generating)) :
    ∃ u, s.BeginsRound u ∧ step s = .next u.advance := by
  obtain ⟨u, hu, hs⟩ := step_of_not_accepted h hg
  exact ⟨u, hu, State.autonomous_of_idle_phase (hu.phase_eq.symm ▸ hp) ▸ hs⟩

theorem step_of_accepted_gen {s : State} (hg : s.pins.isGen = true) (hp : s.phase = .generating) :
    step s = .next s.afterGen.advance := by
  obtain ⟨hend, -⟩ | ⟨-, hs⟩ | ⟨-, hgen, -⟩ := edge_kinds s
  · simp [Pins.endsSession_of_isGen hg] at hend
  · exact hs
  · exact absurd ⟨hg, hp⟩ hgen

/-- An edge that presents a command word, as `isValidInit`, `isGen` and `isClear` test it. -/
theorem Pins.of_presents {p : Pins} {w : CmdWord} (h : (!p.rst && p.cmdValid && p.cmd == w) = true) :
    p.rst = false ∧ p.cmdValid = true ∧ p.cmd = w := by
  simpa [and_assoc] using h

theorem step_of_isValidInit {s : State} (h : s.pins.isValidInit = true) :
    step s = .next s.beginEdge.startSession.advance := by
  obtain ⟨hr, hv, hc⟩ := Pins.of_presents h
  exact step_of_command hr hv (i := .init 16 16) (hc ▸ rfl)

theorem step_of_isClear {s : State} (h : s.pins.isClear = true) : step s = .next s.resetRegisters.advance := by
  obtain ⟨hr, hv, hc⟩ := Pins.of_presents h
  exact step_of_command hr hv (i := .clear) (hc ▸ rfl)

/-- D10: of a state that presents a valid INIT, the new session has the key, the IV and the later inputs only. -/
theorem State.startSession_advance_congr {s t : State} (hk : s.pins.keyIn = t.pins.keyIn)
    (hv : s.pins.ivIn = t.pins.ivIn) (hp : s.pending = t.pending) :
    s.beginEdge.startSession.advance = t.beginEdge.startSession.advance := by
  have h : s.beginEdge.startSession = t.beginEdge.startSession.setInputs s.pins s.pending := by
    simp only [State.startSession, State.beginEdge_pins, hk, hv]
    rfl
  rw [h, hp]
  exact t.beginEdge.startSession.advance_setInputs s.pins

/-- R170: whatever an edge does, it leaves the inputs to move on by one place. -/
theorem exists_step_eq_advance (s : State) : ∃ u, s.SameInputs u ∧ step s = .next u.advance := by
  obtain ⟨-, u, hu, hs⟩ | ⟨-, hs⟩ | ⟨-, -, u, hu, hs⟩ := edge_kinds s
  · exact ⟨u, hu.sameInputs, hs⟩
  · exact ⟨_, by simp [State.SameInputs], hs⟩
  · exact ⟨_, by simpa [State.SameInputs] using hu.sameInputs, hs⟩

/-- R170: the step is a function. -/
theorem step_unique {s t u : State} (ht : step s = .next t) (hu : step s = .next u) : t = u :=
  Host.Outcome.next.inj (ht.symm.trans hu)

theorem exists_step_eq_next (s : State) : ∃ t, step s = .next t :=
  (exists_step_eq_advance s).imp' State.advance fun _ h => h.2

/-- The inputs an edge samples are those scheduled, one place on. -/
theorem step_edgePins {s t : State} (h : step s = .next t) (k : Nat) : t.edgePins k = s.edgePins (k + 1) := by
  obtain ⟨u, ⟨hpins, hpending⟩, hs⟩ := exists_step_eq_advance s
  obtain rfl := step_unique hs h
  rw [State.advance_edgePins, State.edgePins_congr hpins hpending]

end Sys2Proof.Machine

open Sys2Proof Sys2Proof.Machine

/-- Settles O13: the round is the cipher's, and an edge in INITIALIZING runs it. -/
theorem initRoundCompletes : Obligations.InitRoundCompletes := by
  intro s
  refine ⟨_, exec_initRound s, s.initRound_cipher, rfl, s.initRound_phase_eq, rfl, by simp, by simp, by simp,
    by simp [State.SameInputs], fun hp h => ?_⟩
  obtain ⟨u, hu, hs⟩ := step_of_initializing hp h
  exact ⟨_, hs, by simp [hu.cipher_eq], by simp [hu.rc_eq], by simp [hu.rc_eq, hu.phase_eq], by simp⟩

/-- Settles O14: the round is the cipher's work round, and an edge in WARMING runs it. -/
theorem warmRoundCompletes : Obligations.WarmRoundCompletes := by
  intro s
  refine ⟨_, exec_warmRound s, s.warmRound_cipher, rfl, rfl, by simp, by simp, by simp, by simp,
    by simp [State.SameInputs], fun hp h => ?_⟩
  obtain ⟨u, hu, hs⟩ := step_of_warming hp h
  exact ⟨_, hs, by simp [hu.cipher_eq], by simp [hu.rc_eq], by simp, by simp⟩

/-- Settles O15: the round is the cipher's work round, and an accepted GEN runs it and shows its word. -/
theorem genRoundCompletes : Obligations.GenRoundCompletes := by
  intro s
  exact ⟨s.genWord_eq_cipher_word, _, exec_genRound s, s.genRound_cipher, by simp, by simp, by simp, by simp,
    by simp, by simp, by simp [State.SameInputs], fun hg hp => ⟨_, step_of_accepted_gen hg hp, by simp, by simp⟩⟩

/-- Settles O17, by the order of the two checks: each rejection is a NOP with ERR written first. -/
theorem initStartsSessionOrRejects : Obligations.InitStartsSessionOrRejects := by
  refine fun klen vlen s => ⟨fun hk => ?_, fun hk hv => ?_, fun hk hv => ?_⟩
  · exact ⟨_, exec_init_of_klen_ne hk vlen s, exec_nop_setErr s .invalidKeyLength, s.reject_err _⟩
  · subst hk
    exact ⟨_, exec_init_of_vlen_ne hv s, exec_nop_setErr s .invalidIvLength, s.reject_err _⟩
  · subst hk hv
    exact ⟨_, exec_init_sixteen s, s.beginEdge.startSession_cipher, rfl, rfl, rfl, rfl, rfl, rfl,
      by simp [State.SameInputs]⟩

/-- Settles O18, by PHASE: the round and its word in GENERATING, elsewhere a NOP with ERR written first. -/
theorem genEmitsWordOrRejects : Obligations.GenEmitsWordOrRejects := by
  refine fun s => ⟨fun hp => ?_, fun hp => ?_⟩
  · exact ⟨_, exec_gen_of_generating hp, s.genWord_eq_cipher_word, rfl, rfl, rfl, s.genRound_cipher, by simp,
      by simp, by simp [State.SameInputs]⟩
  · exact ⟨_, exec_gen_of_not_generating hp, exec_nop_setErr s .useBeforeInitialize, s.reject_err _,
      s.reject_zvalid _⟩

/-- Settles O23: the word is rejected, and the rejection reads none of the inputs that presented it. -/
theorem illegalWordSetsErrAndKeepsRound : Obligations.IllegalWordSetsErrAndKeepsRound := by
  intro s hr hv hw
  refine ⟨_, step_of_illegal hr hv (decodeCommand_of_illegalWord hw), by simp [ErrorKind.code], ?_⟩
  have hnone := step_of_no_command (s := (s.setErr .illegalCommand).setInputs s.pins.withoutCommand s.pending) hr rfl
  exact hnone.trans (congrArg _ (State.beginEdge_autonomous_advance_setInputs (s.setErr .illegalCommand) _))

/-- Settles O28: edges that end the session by what they present, the others by PHASE. -/
theorem phaseTransitionsAreComplete : Obligations.PhaseTransitionsAreComplete := by
  rintro s ⟨-, ⟨-, hrc, -⟩, -⟩
  obtain ⟨t, hs⟩ := exists_step_eq_next s
  refine ⟨t, hs, fun h => ?_, fun h => ?_,
    fun h => ⟨fun hp hlast => ?_, fun hp hlast => ?_, fun hp => ?_, fun hp => ?_⟩⟩
  · obtain rfl := step_unique (h.elim step_of_rst step_of_isClear) hs
    simp
  · obtain rfl := step_unique (step_of_isValidInit h) hs
    simp
  · obtain ⟨u, hu, hs'⟩ := step_of_initializing hp h
    obtain rfl := step_unique hs' hs
    simp [-State.initRound_phase, State.initRound_phase_eq, hu.rc_eq, hlast]
  · obtain ⟨u, hu, hs'⟩ := step_of_initializing hp h
    obtain rfl := step_unique hs' hs
    simp [-State.initRound_phase, -BitVec.toNat_add, State.initRound_phase_eq, hu.rc_eq, hu.phase_eq, hlast, hp,
      State.rc_add_one_toNat (hrc hp)]
  · obtain ⟨u, hu, hs'⟩ := step_of_warming hp h
    obtain rfl := step_unique hs' hs
    simp [hu.rc_eq]
  · by_cases hg : s.pins.isGen = true ∧ s.phase = .generating
    · obtain rfl := step_unique (step_of_accepted_gen hg.1 hg.2) hs
      simp
    · obtain ⟨u, hu, hs'⟩ := step_of_idle_phase hp h hg
      obtain rfl := step_unique hs' hs
      simp [hu.phase_eq, hu.rc_eq]

/-- Settles O29: no round runs, and no command is accepted. -/
theorem idlePhasesKeepSession : Obligations.IdlePhasesKeepSession := by
  intro s hp h hg
  obtain ⟨u, hu, hs⟩ := step_of_idle_phase hp h (fun hgen => by simp [hg hgen.2] at hgen)
  exact ⟨_, hs, by simp [hu.cipher_eq], by simp [hu.phase_eq], by simp [hu.rc_eq], by simp [hu.zout_eq],
    by simp [hu.zvalid_eq], by simp [hu.obsv_eq]⟩

/-- Settles O35: both edges load the same new session. -/
theorem validInitForgetsOldSession : Obligations.ValidInitForgetsOldSession := by
  intro s t hs ht hk hv hp
  rw [step_of_isValidInit hs, step_of_isValidInit ht, State.startSession_advance_congr hk hv hp]

/-- Settles O16, by the cases of the autonomous round. -/
theorem nopCompletes : Obligations.NopCompletes := by
  intro s
  refine ⟨_, exec_nop s, by simp, by simp, by simp, by simp [State.SameInputs],
    State.autonomous_of_idle_phase (s := s.beginEdge), fun hp => ?_, fun hp => ?_, step_of_no_command⟩
  · rw [State.autonomous_of_initializing (s := s.beginEdge) hp]
    exact exec_initRound s.beginEdge
  · rw [State.autonomous_of_warming (s := s.beginEdge) hp]
    exact exec_warmRound s.beginEdge

/-- Settles O19: CLEAR is Reset(). -/
theorem clearWritesResetColumn : Obligations.ClearWritesResetColumn :=
  fun s => ⟨_, exec_clear s, s.resetRegisters_registersReset, rfl, rfl⟩

/-- Settles O20: every kind of edge, and every instruction, answers a next state. -/
theorem everyEdgeCompletes : Obligations.EveryEdgeCompletes :=
  ⟨exists_step_eq_next, exists_exec_eq_next⟩

/-- Settles O21, by the action of the edge. -/
theorem stepRunsSelectedInstruction : Obligations.StepRunsSelectedInstruction := by
  refine fun s hr => ⟨fun i hv hd => step_of_command hr hv hd, fun hv hp => ?_, fun hv hp => ?_, fun hv hp => ?_⟩
  · exact step_of_autonomousRound hr hv (by rw [hp]; rfl)
  · exact step_of_autonomousRound hr hv (by rw [hp]; rfl)
  · rw [step_of_no_command hr hv, State.autonomous_of_idle_phase (s := s.beginEdge) hp]
    rfl

/-- Settles O22, by whether inputs are pending. -/
theorem advancePresentsNextInputs : Obligations.AdvancePresentsNextInputs := by
  refine fun s => ⟨fun h => ?_, fun p ps h => ?_, rfl⟩
  · simp [State.advance, State.setInputs, h]
  · simp only [State.advance, h]
    rfl
end

section
/-! SUPPORT. The course of a session, edge by edge, and the words a host reads along it: the rounds that a valid INIT
leaves to do, and one word for each GEN after them. -/

namespace Sys2Proof.Machine

open Sys2Proof

/-! ### The course of a session (R175, R179, R180; 70_reset_and_hazards.md R245) -/

/-- A session that has `k` initialization rounds before it, and then the warm-up round. -/
def State.RoundsLeft (s : State) (k : Nat) : Prop :=
  s.rc.toNat + k = Config.initRounds ∧ s.phase = if k = 0 then .warming else .initializing

/-- A valid INIT leaves all 32 rounds to do. -/
theorem roundsLeft_of_isValidInit {s : State} (h : s.pins.isValidInit = true) :
    ∃ t, step s = .next t ∧ t.RoundsLeft Config.initRounds
      ∧ t.cipher = Cipher.loaded s.pins.keyIn s.pins.ivIn ∧ t.zvalid = false :=
  ⟨_, step_of_isValidInit h, by simp [State.RoundsLeft, Config.initRounds], by simp, by simp⟩

/-- While rounds are left, an edge that does not end the session performs one, whatever it presents. -/
theorem State.RoundsLeft.next {s : State} {k : Nat} (hk : s.RoundsLeft (k + 1)) (h : s.pins.endsSession = false) :
    ∃ t, step s = .next t ∧ t.RoundsLeft k ∧ t.cipher = s.cipher.initRound ∧ t.zvalid = false := by
  obtain ⟨hrc, hp⟩ := hk
  obtain ⟨u, hu, hs⟩ := step_of_initializing hp h
  rw [Config.initRounds] at hrc
  refine ⟨_, hs, ⟨?_, ?_⟩, by simp [hu.cipher_eq], by simp [hu.zvalid_eq]⟩
  · rw [State.advance_rc, State.setObsv_rc, State.initRound_rc, hu.rc_eq, State.rc_add_one_toNat (by omega),
      Config.initRounds]
    omega
  · have hlast : s.rc.toNat + 1 = Config.initRounds ↔ k = 0 := by
      rw [Config.initRounds]
      omega
    simp [hu.rc_eq, hu.phase_eq, hp, hlast]

/-- With no initialization round left, the edge is the warm-up round. -/
theorem State.RoundsLeft.warm {s : State} (hk : s.RoundsLeft 0) (h : s.pins.endsSession = false) :
    ∃ t, step s = .next t ∧ t.phase = .generating ∧ t.cipher = s.cipher.workRound ∧ t.zvalid = false := by
  obtain ⟨-, hp⟩ := hk
  obtain ⟨u, hu, hs⟩ := step_of_warming hp h
  exact ⟨_, hs, by simp, by simp [hu.cipher_eq], by simp [hu.zvalid_eq]⟩

/-! ### The words read along a run (R187) -/

/-- None of the next `n` edges ends the session. -/
def State.KeepsSession (s : State) (n : Nat) : Prop := ∀ k, k < n → (s.edgePins k).endsSession = false

theorem State.KeepsSession.head {s : State} {n : Nat} (h : s.KeepsSession (n + 1)) : s.pins.endsSession = false :=
  h 0 n.succ_pos

theorem State.KeepsSession.tail {s t : State} {n : Nat} (h : s.KeepsSession (n + 1)) (hs : step s = .next t) :
    t.KeepsSession n := by
  intro k hk
  rw [step_edgePins hs]
  exact h (k + 1) (Nat.succ_lt_succ hk)

/-- A step moves the edges counted by one place. -/
theorem gensPresented_of_step {s t : State} (h : step s = .next t) (k n : Nat) :
    t.gensPresented k n = s.gensPresented (k + 1) n := by
  simp only [State.gensPresented, step_edgePins h, Nat.add_right_comm k 1]

/-- The GENs of the edges after a step, and the one that the step's own edge may present. -/
theorem gensPresented_succ_of_step {s t : State} (h : step s = .next t) (n : Nat) :
    s.gensPresented 0 (n + 1) = t.gensPresented 0 n + if s.pins.isGen then 1 else 0 := by
  simp only [State.gensPresented, ← List.countP_eq_length_filter, List.range_succ_eq_map, List.countP_cons,
    List.countP_map, step_edgePins h, Nat.zero_add, State.edgePins_zero]
  rfl

theorem emittedWords_of_step {s t : State} (h : step s = .next t) (n : Nat) :
    emittedWords (n + 1) s = (if t.zvalid then [t.zout] else []) ++ emittedWords n t := by
  simp only [emittedWords, h]

theorem emittedWords_of_silent_step {s t : State} (h : step s = .next t) (hz : t.zvalid = false) (n : Nat) :
    emittedWords (n + 1) s = emittedWords n t := by
  simp [emittedWords_of_step h, hz]

/-- From GENERATING, each GEN emits the next word of the cipher and moves it one round on; no other edge of the session
moves it. -/
theorem emittedWords_of_generating {s : State} {n : Nat} (hp : s.phase = .generating) (h : s.KeepsSession n) :
    emittedWords n s = Cipher.keystream (s.gensPresented 0 n) s.cipher := by
  induction n generalizing s with
  | zero => rfl
  | succ n ih =>
    by_cases hg : s.pins.isGen = true
    · have hs := step_of_accepted_gen hg hp
      rw [emittedWords_of_step hs, gensPresented_succ_of_step hs, if_pos hg, ih (by simp [hp]) (h.tail hs),
        Cipher.keystream]
      simp [s.genWord_eq_cipher_word]
    · obtain ⟨u, hu, hs⟩ := step_of_idle_phase (.inr hp) h.head (fun hgen => hg hgen.1)
      rw [emittedWords_of_silent_step hs (by simp [hu.zvalid_eq]), gensPresented_succ_of_step hs, if_neg hg,
        ih (by simp [hu.phase_eq, hp]) (h.tail hs), State.advance_cipher, hu.cipher_eq, Nat.add_zero]

/-- A session that still starts up emits nothing until its rounds are done, and then the cipher's keystream. -/
theorem emittedWords_of_roundsLeft {s : State} {k n : Nat} (hk : s.RoundsLeft k) (h : s.KeepsSession (n + 1 + k)) :
    emittedWords (n + 1 + k) s
      = Cipher.keystream (s.gensPresented (k + 1) n) (Cipher.initRounds k s.cipher).workRound := by
  induction k generalizing s with
  | zero =>
    obtain ⟨t, hs, hp, hc, hz⟩ := hk.warm h.head
    rw [Nat.add_zero, emittedWords_of_silent_step hs hz, emittedWords_of_generating hp (h.tail hs),
      gensPresented_of_step hs, hc]
    rfl
  | succ k ih =>
    obtain ⟨t, hs, hk, hc, hz⟩ := hk.next h.head
    rw [← Nat.add_assoc, emittedWords_of_silent_step hs hz, ih hk (h.tail hs), gensPresented_of_step hs, hc]
    rfl

end Sys2Proof.Machine

open Sys2Proof Sys2Proof.Machine

/-- Settles O48: the load, the rounds that are left after it, and the words from GENERATING on. -/
theorem sessionEmitsCipherKeystream : Obligations.SessionEmitsCipherKeystream := by
  intro s n hinit h
  obtain ⟨t, hs, hk, hc, hz⟩ := roundsLeft_of_isValidInit hinit
  have hkeeps : t.KeepsSession (n + 1 + Config.initRounds) := by
    intro k hlt
    rw [Config.initRounds] at hlt
    rw [step_edgePins hs]
    exact h (k + 1) (by omega) (by omega)
  have hlen : 34 + n = n + 1 + Config.initRounds + 1 := by
    rw [Config.initRounds]
    omega
  rw [hlen, emittedWords_of_silent_step hs hz, emittedWords_of_roundsLeft hk hkeeps, gensPresented_of_step hs, hc]
  rfl

/-- Settles O49: both hosts read the cipher's keystream from the same cipher state. -/
theorem wordsDependOnlyOnNumberOfGens : Obligations.WordsDependOnlyOnNumberOfGens := by
  intro s t m n hs ht hc hm hn hgens
  rw [emittedWords_of_generating hs hm, emittedWords_of_generating ht hn, hc, hgens]
end

section
/-! SUPPORT. Facts that the statements on 60_exceptions.md rest on: the words that earn no error, the edge of a
rejected command, and the registers on the observer port `obs_s`. -/

namespace Sys2Proof.Machine

open Sys2Proof

/-! ### The words that earn no error (60_exceptions.md R210, R211) -/

@[simp] theorem commandError_nop (p : Phase) : commandError p 0x0000#16 = 0 := rfl

@[simp] theorem commandError_validInit (p : Phase) : commandError p 0x2101#16 = 0 := rfl

@[simp] theorem commandError_clear (p : Phase) : commandError p 0x0003#16 = 0 := rfl

@[simp] theorem commandError_gen_generating : commandError .generating 0x0002#16 = 0 := rfl

/-! ### The edge of a command (R211, R212) -/

/-- R212: the next state of a rejection is that of an edge without a command which finds the error's code in ERR. -/
theorem step_setErr_withoutCommand {s : State} (h : s.pins.rst = false) (e : ErrorKind) :
    step ((s.setErr e).setInputs s.pins.withoutCommand s.pending) = .next (s.reject e).advance := by
  have hnone := step_of_no_command (s := (s.setErr e).setInputs s.pins.withoutCommand s.pending) h rfl
  exact hnone.trans (congrArg _ ((s.setErr e).beginEdge_autonomous_advance_setInputs _))

/-- A command that earns an error is rejected with that error. -/
theorem step_of_commandError_ne_zero {s : State} (hr : s.pins.rst = false) (hv : s.pins.cmdValid = true)
    (herr : commandError s.phase s.pins.cmd ≠ 0) :
    ∃ e : ErrorKind, commandError s.phase s.pins.cmd = e.code.toNat ∧ step s = .next (s.reject e).advance := by
  obtain ⟨hc, -⟩ | ⟨hc, -⟩ | ⟨hc, hp, -⟩ | ⟨hc, -⟩ | ⟨e, ⟨hcode, -⟩, hs⟩ := command_edge_cases hr hv
  · simp [hc] at herr
  · simp [hc] at herr
  · simp [hc, hp] at herr
  · simp [hc] at herr
  · exact ⟨e, hcode, hs⟩

/-- R211: a command other than NOP leaves the code of its error in ERR, 0 where it has none. -/
theorem step_err_of_command {s t : State} (hr : s.pins.rst = false) (hv : s.pins.cmdValid = true)
    (hnop : s.pins.cmd ≠ 0x0000#16) (hs : step s = .next t) : t.err.toNat = commandError s.phase s.pins.cmd := by
  obtain ⟨hc, -⟩ | ⟨hc, h⟩ | ⟨hc, hp, h⟩ | ⟨hc, h⟩ | ⟨e, ⟨hcode, -⟩, h⟩ := command_edge_cases hr hv
  · exact absurd hc hnop
  all_goals obtain rfl := step_unique h hs
  · simp [hc]
  · simp [hc, hp, ErrorKind.code]
  · simp [hc]
  · simp [hcode]

/-- R211: without a command, or with NOP, the edge is its defaults and the autonomous round. -/
theorem step_of_no_command_or_nop {s : State} (h : s.pins.rst = false)
    (hc : s.pins.cmdValid = false ∨ s.pins.cmd = 0x0000#16) : step s = .next s.beginEdge.autonomous.advance := by
  cases hv : s.pins.cmdValid with
  | false => exact step_of_no_command h hv
  | true => exact step_of_nop h hv (hc.resolve_left (by simp [hv]))

/-! ### The observer port `obs_s` (R225; 30_encoding.md R71) -/

/-- Register i of the file is the i-th field of 31 bits: the i fields joined below it are cut off, the ones above it
are not read. -/
theorem obsBits_extractLsb' (l : Lfsr) {i : Nat} (h : i < 16) : (obsBits l).extractLsb' (31 * i) 31 = l[i] := by
  unfold obsBits
  interval_cases i <;> simp only [Nat.reduceMul, Nat.reduceSub, Nat.reduceLeDiff, BitVec.extractLsb'_append_eq_of_le,
    BitVec.extractLsb'_append_eq_right, BitVec.extractLsb'_eq_self]

end Sys2Proof.Machine

open Sys2Proof Sys2Proof.Machine

/-- Settles O26: the command is rejected, and its edge is the one without it that starts with ERR written. -/
theorem rejectedCommandChangesOnlyErr : Obligations.RejectedCommandChangesOnlyErr := by
  intro s hr hv herr
  obtain ⟨e, hcode, hs⟩ := step_of_commandError_ne_zero hr hv herr
  refine ⟨_, hs, by simp, ?_⟩
  rw [hcode, BitVec.ofNat_toNat, BitVec.setWidth_eq]
  exact step_setErr_withoutCommand hr e

/-- Settles O27, by what the edge presents: reset, no command or NOP, or another command. -/
theorem errReportsLastCommand : Obligations.ErrReportsLastCommand := by
  intro s
  obtain ⟨t, hs⟩ := exists_step_eq_next s
  refine ⟨t, hs, fun hr => ?_, fun hr hc => ?_, fun hr hv hnop => step_err_of_command hr hv hnop hs⟩
  · obtain rfl := step_unique (step_of_rst hr) hs
    simp
  · obtain rfl := step_unique (step_of_no_command_or_nop hr hc) hs
    simp

/-- Settles O43: the register on each field of `obs_s`; every other port is its register. -/
theorem observerPortsShowRegisters : Obligations.ObserverPortsShowRegisters :=
  fun s => ⟨⟨_, rfl, rfl, rfl, rfl, fun _ h => obsBits_extractLsb' s.lfsr h⟩, rfl, rfl, rfl, rfl, rfl, rfl, rfl⟩
end

section
/-! SUPPORT. Facts that the statements on 70_reset_and_hazards.md rest on: what a reset edge leaves and what it reads,
the edges that read neither key nor IV, and the run from a valid INIT to GENERATING. -/

namespace Sys2Proof.Machine

open Sys2Proof

/-! ### Reset edges (R240, R241) -/

theorem State.RegistersReset.advance {s : State} (h : s.RegistersReset) : s.advance.RegistersReset := by
  simpa [State.RegistersReset] using h

/-- R241: after Reset() STATUS reads 0x0000. -/
theorem State.RegistersReset.status_eq {s : State} (h : s.RegistersReset) : status s = 0#16 := by
  obtain ⟨-, -, -, hphase, hrc, herr, -, hzvalid, -⟩ := h
  simp only [status, ready, busy, hphase, hrc, herr, hzvalid]
  decide

/-- R240: of the state before a reset edge, the state after it has the later inputs only. -/
theorem State.resetRegisters_advance_congr {s t : State} (h : s.pending = t.pending) :
    s.resetRegisters.advance = t.resetRegisters.advance := by
  have hreset : s.resetRegisters = t.resetRegisters.setInputs s.pins s.pending := rfl
  rw [hreset, h]
  exact t.resetRegisters.advance_setInputs s.pins

/-! ### The inputs an edge does not read (R248) -/

/-- The same state with other values on the key and IV ports. -/
def State.withKeyAndIv (s : State) (key iv : BitVec 128) : State :=
  s.setInputs { s.pins with keyIn := key, ivIn := iv } s.pending

/-- The word of a GEN, and what it writes, come from the registers. -/
theorem State.afterGen_advance_setInputs (s : State) (p : Pins) :
    (s.setInputs p s.pending).afterGen.advance = s.afterGen.advance :=
  s.afterGen.advance_setInputs p

/-- 60_exceptions.md R212: a rejection is the edge's defaults and the autonomous round with ERR written, which read no
input. -/
theorem State.reject_advance_setInputs (s : State) (p : Pins) (e : ErrorKind) :
    ((s.setInputs p s.pending).reject e).advance = (s.reject e).advance :=
  (s.setErr e).beginEdge_autonomous_advance_setInputs p

/-- A rejection writes the code of its error, and nothing else of the error. -/
theorem State.reject_congr (s : State) {e f : ErrorKind} (h : e.code = f.code) : s.reject e = s.reject f := by
  simp only [State.reject, State.raise, State.setErr, h]

/-! ### A GEN before GENERATING (43_session_controller.md R176) -/

theorem step_of_rejected_gen {s : State} (hg : s.pins.isGen = true) (hp : s.phase ≠ .generating) :
    step s = .next (s.reject .useBeforeInitialize).advance := by
  obtain ⟨hr, hv, hc⟩ := Pins.of_presents hg
  rw [step_of_command hr hv (i := .gen) (hc ▸ rfl), exec_gen_of_not_generating hp]
  rfl

/-! ### The run from a valid INIT (R245) -/

theorem runEdges_succ_of_step {s t : State} (h : step s = .next t) (n : Nat) :
    runEdges (n + 1) s = runEdges n t := by
  simp only [runEdges, h]

/-- A run of `n` edges moves the schedule by `n` places. -/
theorem runEdges_edgePins {s t : State} {n : Nat} (h : runEdges n s = .next t) (k : Nat) :
    t.edgePins k = s.edgePins (k + n) := by
  induction n generalizing s with
  | zero =>
    obtain rfl := Host.Outcome.next.inj h
    rfl
  | succ n ih =>
    obtain ⟨u, hs⟩ := exists_step_eq_next s
    rw [runEdges_succ_of_step hs] at h
    rw [ih h, step_edgePins hs]
    rfl

theorem runEdges_pins {s t : State} {n : Nat} (h : runEdges n s = .next t) : t.pins = s.edgePins n := by
  rw [← t.edgePins_zero, runEdges_edgePins h, Nat.zero_add]

/-- Over `k` edges that do not end the session, `k` of the initialization rounds left are performed. -/
theorem State.RoundsLeft.run {s : State} {m k : Nat} (hr : s.RoundsLeft (m + k)) (h : s.KeepsSession k) :
    ∃ t, runEdges k s = .next t ∧ t.RoundsLeft m ∧ t.cipher = Cipher.initRounds k s.cipher := by
  induction k generalizing s with
  | zero => exact ⟨s, rfl, hr, rfl⟩
  | succ k ih =>
    obtain ⟨u, hs, hu, hc, -⟩ := hr.next h.head
    rw [runEdges_succ_of_step hs, Cipher.initRounds, ← hc]
    exact ih hu (h.tail hs)

/-- No GEN succeeds while rounds of the start are left. -/
theorem State.RoundsLeft.phase_ne_generating {s : State} {k : Nat} (h : s.RoundsLeft k) : s.phase ≠ .generating := by
  obtain ⟨-, hp⟩ := h
  rw [hp]
  split <;> decide

/-- The warm-up round leaves RC at the count of the initialization rounds. -/
theorem State.RoundsLeft.rc_of_warm {s t : State} (hr : s.RoundsLeft 0) (h : s.pins.endsSession = false)
    (hs : step s = .next t) : t.rc = 32#6 := by
  obtain ⟨hrc, hp⟩ := hr
  obtain ⟨u, hu, hs'⟩ := step_of_warming hp h
  obtain rfl := step_unique hs' hs
  simpa [hu.rc_eq] using BitVec.eq_of_toNat_eq (y := 32#6) hrc

/-- After edge `k` of a session, `k` initialization rounds of the loaded cipher are done. -/
theorem run_of_isValidInit {s : State} {k : Nat} (hinit : s.pins.isValidInit = true) (hk : k ≤ 32)
    (h : ∀ j, 1 ≤ j → j ≤ k → (s.edgePins j).endsSession = false) :
    ∃ t, runEdges (k + 1) s = .next t ∧ t.RoundsLeft (32 - k)
      ∧ t.cipher = Cipher.initRounds k (Cipher.loaded s.pins.keyIn s.pins.ivIn) := by
  obtain ⟨u, hs, hu, hc, -⟩ := roundsLeft_of_isValidInit hinit
  have hkeeps : u.KeepsSession k := fun j hj => by
    rw [step_edgePins hs]
    exact h (j + 1) (Nat.succ_pos j) hj
  rw [runEdges_succ_of_step hs, ← hc]
  rw [Config.initRounds, ← Nat.sub_add_cancel hk] at hu
  exact hu.run hkeeps

end Sys2Proof.Machine

open Sys2Proof Sys2Proof.Machine

/-- Settles O47: the rounds left after edge k, then the warm-up round; a GEN succeeds in GENERATING only. -/
theorem initializationTakesThirtyThreeEdges : Obligations.InitializationTakesThirtyThreeEdges := by
  intro s hinit h
  refine ⟨fun k hk => ?_, ?_⟩
  · obtain ⟨t, hrun, hleft, hc⟩ := run_of_isValidInit hinit hk fun j hj hjk => h j hj (by omega)
    have ⟨hrc, hp⟩ := hleft
    have hpins := runEdges_pins hrun
    rw [Config.initRounds] at hrc
    have hlast : 32 - k = 0 ↔ k = 32 := by omega
    refine ⟨t, hrun, hc, by omega, by simp only [hp, hlast], hpins, fun hg => ?_⟩
    exact ⟨_, step_of_rejected_gen (hpins ▸ hg) hleft.phase_ne_generating, by simp [ErrorKind.code], by simp⟩
  · obtain ⟨t, hrun, hleft, hc⟩ := run_of_isValidInit hinit le_rfl fun j hj hjk => h j hj (by omega)
    have hkeep : t.pins.endsSession = false := by
      rw [runEdges_pins hrun]
      exact h 33 (by decide) le_rfl
    obtain ⟨u, hs, hp, hcu, -⟩ := hleft.warm hkeep
    have hrun' : runEdges (Config.initRounds + Config.warmRounds + 1) s = .next u :=
      (runEdges_add 1 hrun).trans (runEdges_one hs)
    have hpins := runEdges_pins hrun'
    refine ⟨u, hrun', by rw [hcu, hc]; rfl, hp, hleft.rc_of_warm hkeep hs, hpins, fun hg => ?_⟩
    exact ⟨_, step_of_accepted_gen (hpins ▸ hg) hp, by simp [ErrorKind.code], by simp⟩

/-- Settles O34, by the cases of an edge: each but a valid INIT does the same whatever is on the two ports, and leaves a
state in which neither is read. -/
theorem keyAndIvReadOnlyByValidInit : Obligations.KeyAndIvReadOnlyByValidInit := by
  intro s key iv hinit
  change step s = step (s.withKeyAndIv key iv)
  obtain ⟨hr, hs⟩ | ⟨hclear, hs⟩ | ⟨hvalid, -⟩ | ⟨hg, hp, hs⟩ | ⟨-, -, hr, hv, e, ⟨hcode, hne, -⟩, hs⟩
    | ⟨-, -, hr, hc, hs⟩ := edge_cases s
  · rw [hs, step_of_rst (s := s.withKeyAndIv key iv) hr]
    exact congrArg _ (State.resetRegisters_advance_congr rfl)
  · rw [hs, step_of_isClear (s := s.withKeyAndIv key iv) hclear]
    exact congrArg _ (State.resetRegisters_advance_congr rfl)
  · simp [hinit] at hvalid
  · rw [hs, step_of_accepted_gen (s := s.withKeyAndIv key iv) hg hp]
    exact congrArg _ (s.afterGen_advance_setInputs _).symm
  · have herr : commandError s.phase s.pins.cmd ≠ 0 := by
      rw [hcode]
      exact fun h => hne (BitVec.eq_of_toNat_eq h)
    obtain ⟨f, hf, hs'⟩ := step_of_commandError_ne_zero (s := s.withKeyAndIv key iv) hr hv herr
    rw [hs, hs', s.reject_congr (BitVec.eq_of_toNat_eq (hcode.symm.trans hf))]
    exact congrArg _ (s.reject_advance_setInputs _ f).symm
  · rw [hs, step_of_no_command_or_nop (s := s.withKeyAndIv key iv) hr hc]
    exact congrArg _ (s.beginEdge_autonomous_advance_setInputs _).symm

/-- Settles O24: a reset edge is Reset(), which is all that CLEAR does. -/
theorem resetEdgeWritesResetColumn : Obligations.ResetEdgeWritesResetColumn := by
  intro s hr
  have hreset := s.resetRegisters_registersReset.advance
  exact ⟨_, step_of_rst hr, hreset, hreset.status_eq, by simp [outputs, outputsOf], step_of_rst hr⟩

/-- Settles O25: both edges write the reset column before the same later inputs. -/
theorem resetIgnoresOtherInputs : Obligations.ResetIgnoresOtherInputs := by
  intro s t hs ht hp
  rw [step_of_rst hs, step_of_rst ht, State.resetRegisters_advance_congr hp]

/-- Settles O45: the reset column meets the invariant. -/
theorem resetEdgeEstablishesInvariant : Obligations.ResetEdgeEstablishesInvariant :=
  fun s hr => ⟨_, step_of_rst hr, s.resetRegisters_registersReset.inv.advance⟩
end
